-- ==== Sys2Proof/Word.lean ====
section
/-! DEFINITION. The two word types of the core: bytes and 16-bit words (00_scope.md R7, R9). -/

namespace Sys2Proof

/-- `u8` of 00_scope.md R9: a general register, a memory byte, an opcode, an 8-bit immediate. -/
abbrev Byte := BitVec 8

/-- `u16` of 00_scope.md R9: `pc`, `sp`, a register pair, an address, a 16-bit immediate. -/
abbrev Word := BitVec 16

end Sys2Proof
end

