-- ==== Sys2Proof/Config.lean ====
section
/-! DEFINITION. What is fixed when the block is built: the parameters of 00_scope.md R7, the values given with a reset,
the bus calls the core can make, and the free values: what an arbitrary bus answers. -/

namespace Sys2Proof

/-- `JR_CC_CYCLES` (00_scope.md R7, 44_jump.md R162): the cost of a taken JR cc,d. -/
inductive JrCcCycles where
  | canonical
  | historical
  deriving DecidableEq, Repr

/-- `STOP_LENGTH` (00_scope.md R7, 45_control.md R173). -/
inductive StopLength where
  | one
  | two
  deriving DecidableEq, Repr

/-- `DAA_MODE` (00_scope.md R7, 42_arith.md R137). -/
inductive DaaMode where
  | implemented
  | unsupported
  deriving DecidableEq, Repr

/-- `BUS` (00_scope.md R7, 20_memory.md R60): what stands behind the bus port. -/
inductive BusKind where
  | flatRam
  | oracle
  deriving DecidableEq, Repr

/-- The parameters of 00_scope.md R7 that hold for the life of the block. `RESET_VALUES` is given with each reset
and is `ResetValues` below (92_eei_decisions.md D10). -/
structure Config where
  jrCcCycles : JrCcCycles
  stopLength : StopLength
  daaMode    : DaaMode
  bus        : BusKind
  deriving DecidableEq, Repr

/-- The column "default" of 00_scope.md R7. -/
def Config.standard : Config where
  jrCcCycles := .canonical
  stopLength := .two
  daaMode    := .implemented
  bus        := .flatRam

/-- `RESET_VALUES` (00_scope.md R7): the caller-supplied value of each general register, `pc` and `sp`. -/
structure ResetValues where
  a  : Byte
  b  : Byte
  c  : Byte
  d  : Byte
  e  : Byte
  h  : Byte
  l  : Byte
  pc : Word
  sp : Word
  deriving DecidableEq, Repr

/-- The default of `RESET_VALUES`: all zero (00_scope.md R7). -/
def ResetValues.zero : ResetValues where
  a := 0
  b := 0
  c := 0
  d := 0
  e := 0
  h := 0
  l := 0
  pc := 0
  sp := 0

/-- One call of the bus port (20_memory.md R50), as the core makes it. -/
inductive BusCall where
  | readByte (address : Word)
  | writeByte (value : Byte) (address : Word)
  | readWord (address : Word)
  | writeWord (value : Word) (address : Word)
  deriving DecidableEq, Repr

/-- FREE VALUE (entry 5). What a bus that is not a flat RAM answers to `ReadByte`, given every bus call made before
this one (newest first). It has no body: nothing constrains it (20_memory.md R59, R60; 93_implementation_defined.md I8). -/
opaque Config.oracleByte : List BusCall → Word → Byte

/-- FREE VALUE (entry 5). What such a bus answers to `ReadWord`; it need not agree with `ReadByte` (20_memory.md R54). -/
opaque Config.oracleWord : List BusCall → Word → Word

/-- What a byte of the flat RAM that the memory list does not name reads as.
DESIGN CHOICE (entry 2, unsafe): the spec gives no memory contents (20_memory.md R60). -/
def Config.unlistedByte : Byte := 0x00#8

end Sys2Proof
end

