-- ==== Sys2Proof/Machine/State.lean ====
section
/-! DEFINITION. The state of the machine (10_state.md R36, with the memory behind the bus, 20_memory.md R60), the reasons
a step can stop, and the state after reset (10_state.md R37). -/

namespace Sys2Proof.Machine

/-- The four flags, independent of each other (10_state.md R27, R29). -/
structure Flags where
  z : Bool
  n : Bool
  h : Bool
  c : Bool
  deriving DecidableEq, Repr

/-- The processor state `st` (10_state.md R32). -/
inductive RunState where
  | normal
  | halted
  | terminated
  | error
  | expectingCbp
  deriving DecidableEq, Repr

/-- The flat RAM of 20_memory.md R60: the bytes that differ from `Config.unlistedByte`, by rising address. -/
abbrev Memory := List Host.Cell

/-- The canonical form from address `low` up: addresses strictly rising and below 65536 (20_memory.md R51), and no
entry equal to what an unlisted address reads as. -/
def Memory.wfFrom (low : Nat) : Memory → Bool
  | [] => true
  | (k, v) :: rest =>
    decide (low ≤ k) && decide (k < 65536) && v != Config.unlistedByte && Memory.wfFrom (k + 1) rest

/-- The memory list is in its one canonical form, so that equal memories are equal data. -/
def Memory.wf (m : Memory) : Bool := Memory.wfFrom 0 m

/-- The whole state. `busLog` and `cfg` are the model's own fields, not the spec's (entries 1 and 4). -/
structure State where
  /-- The accumulator (10_state.md R20). -/
  a : Byte
  b : Byte
  c : Byte
  d : Byte
  e : Byte
  h : Byte
  l : Byte
  /-- The program counter (10_state.md R25). -/
  pc : Word
  /-- The stack pointer (10_state.md R26). -/
  sp : Word
  /-- The flags (10_state.md R27). -/
  f : Flags
  /-- The cycle counter, unbounded (10_state.md R31). -/
  cyc : Nat
  /-- The processor state (10_state.md R32). -/
  st : RunState
  /-- What the flat RAM behind the bus holds (20_memory.md R60). -/
  mem : Memory
  /-- The bus calls made so far, newest first (20_memory.md R59). -/
  busLog : List BusCall
  /-- The parameters of 00_scope.md R7. -/
  cfg : Config
  deriving DecidableEq, Repr

/-- Why the machine stops. -/
inductive Fault where
  /-- Raised by `step` alone, when it is asked for in the state EXPECTING_CBP, where the block has no step
  (60_exceptions.md R212; 93_implementation_defined.md I1, "stuck"). Safe: nothing enters that state (10_state.md R34). -/
  | expectingCbpHasNoStep
  deriving DecidableEq, Repr

/-- Why an instruction is refused. -/
inductive Refusal where
  /-- Raised by an arm of `exec` for an instruction that has no meaning yet; no arm does. Safe. -/
  | notModelled (mnemonic : String)
  deriving DecidableEq, Repr

/-- The block right after construction or reset (70_reset_and_hazards.md R230, R231), built with the parameters `cfg`,
given the reset values `rv`, over a bus that holds `mem` and has seen the calls `log`. -/
def State.launch (cfg : Config) (rv : ResetValues) (mem : Memory) (log : List BusCall) : State where
  a := rv.a
  b := rv.b
  c := rv.c
  d := rv.d
  e := rv.e
  h := rv.h
  l := rv.l
  pc := rv.pc
  sp := rv.sp
  f := { z := false, n := false, h := false, c := false }
  cyc := 0
  st := .normal
  mem := mem
  busLog := log
  cfg := cfg

/-- The machine right after reset: the defaults of 00_scope.md R7, nothing listed in memory (entry 2) and no bus call
made (entry 4). -/
def State.reset : State := State.launch Config.standard ResetValues.zero [] []

end Sys2Proof.Machine
end

