-- ==== Sys2Proof/Machine/Flags.lean ====
section
/-! DEFINITION. Every result and every flag the instructions compute, from the operands alone. Sums and differences are
taken on unbounded integers and brought back to width, as 00_scope.md R9 writes them. -/

namespace Sys2Proof.Machine

/-- `trunc_8` of a natural number (00_scope.md R9). -/
def trunc8 (v : Nat) : Byte := BitVec.ofNat 8 v

/-- `trunc_16` of a natural number (00_scope.md R9). -/
def trunc16 (v : Nat) : Word := BitVec.ofNat 16 v

/-- `trunc_8` of an integer, negative ones included (00_scope.md R9). -/
def truncInt8 (v : Int) : Byte := BitVec.ofInt 8 v

/-- `v[3:0]` as a number. -/
def nibble (v : Byte) : Nat := v.toNat % 16

/-- `v[11:0]` as a number. -/
def low12 (v : Word) : Nat := v.toNat % 4096

/-- The packed flags, `F.C : F.H : F.N : F.Z` from bit 3 down to bit 0 (10_state.md R27). -/
def Flags.packed (f : Flags) : BitVec 4 :=
  BitVec.ofBool f.c ++ BitVec.ofBool f.h ++ BitVec.ofBool f.n ++ BitVec.ofBool f.z

/-! ## 8-bit increment and decrement (41_inc_dec.md R120, R121) -/

/-- `trunc_8(old + 1)`. -/
def incByte (old : Byte) : Byte := old + 1

/-- Z computed, N cleared, H computed, C unaffected (41_inc_dec.md R120). -/
def Flags.inc (f : Flags) (old : Byte) : Flags :=
  { f with z := decide (incByte old = 0), n := false, h := decide (nibble old = 15) }

/-- `trunc_8(old - 1)`. -/
def decByte (old : Byte) : Byte := old - 1

/-- Z computed, N set, H computed, C unaffected (41_inc_dec.md R121). -/
def Flags.dec (f : Flags) (old : Byte) : Flags :=
  { f with z := decide (decByte old = 0), n := true, h := decide (nibble old = 0) }

/-! ## 16-bit add into HL (42_arith.md R131) -/

/-- `trunc_16(a + b)`. -/
def addWords (a b : Word) : Word := trunc16 (a.toNat + b.toNat)

/-- Z unaffected, N cleared, H the carry out of bit 11, C the carry out of bit 15 (42_arith.md R131). -/
def Flags.addHL (f : Flags) (a b : Word) : Flags :=
  { f with
    n := false
    h := decide (low12 a + low12 b > 0x0FFF)
    c := decide (a.toNat + b.toNat > 0xFFFF) }

/-! ## 8-bit arithmetic (42_arith.md R132 to R136) -/

/-- `trunc_8(a + v + c)`. -/
def addBytes (a v : Byte) (c : Bool) : Byte := trunc8 (a.toNat + v.toNat + c.toNat)

/-- The flags of an addition with carry-in `c`, on the three-term sum (42_arith.md R132, R133). -/
def Flags.ofAdd (a v : Byte) (c : Bool) : Flags where
  z := decide (addBytes a v c = 0)
  n := false
  h := decide (nibble a + nibble v + c.toNat > 15)
  c := decide (a.toNat + v.toNat + c.toNat > 255)

/-- `trunc_8(a - v - c)`. -/
def subBytes (a v : Byte) (c : Bool) : Byte := truncInt8 ((a.toNat : Int) - v.toNat - c.toNat)

/-- The flags of a subtraction with borrow-in `c`, on the three-term difference (42_arith.md R134, R135). -/
def Flags.ofSub (a v : Byte) (c : Bool) : Flags where
  z := decide (subBytes a v c = 0)
  n := true
  h := decide (nibble a < nibble v + c.toNat)
  c := decide (a.toNat < v.toNat + c.toNat)

/-- The flags of AND, from its result: Z computed, N cleared, H set, C cleared (42_arith.md R136). -/
def Flags.ofAnd (res : Byte) : Flags where
  z := decide (res = 0)
  n := false
  h := true
  c := false

/-! ## Decimal adjust (42_arith.md R137) -/

/-- Whether DAA applies the 0x60 correction. -/
def daaHigh (a : Byte) (f : Flags) : Bool :=
  if f.n then f.c else f.c || decide (a.toNat > 0x99)

/-- Whether DAA applies the 0x06 correction. -/
def daaLow (a : Byte) (f : Flags) : Bool :=
  if f.n then f.h else f.h || decide (nibble a > 9)

/-- What DAA adds after an addition, or subtracts after a subtraction. -/
def daaCorrection (a : Byte) (f : Flags) : Nat :=
  (if daaHigh a f then 0x60 else 0) + (if daaLow a f then 0x06 else 0)

/-- The adjusted accumulator. -/
def daaResult (a : Byte) (f : Flags) : Byte :=
  if f.n then truncInt8 ((a.toNat : Int) - daaCorrection a f) else trunc8 (a.toNat + daaCorrection a f)

/-- Z computed, N unaffected, H cleared, C set by the 0x60 correction of the addition branch, else kept. -/
def Flags.daa (f : Flags) (a : Byte) : Flags where
  z := decide (daaResult a f = 0)
  n := f.n
  h := false
  c := if f.n then f.c else daaHigh a f

/-! ## Rotates (43_rotate.md R150 to R153) -/

/-- `a[6:0] : b`. -/
def shiftInLow (a : Byte) (b : Bool) : Byte := a.extractLsb' 0 7 ++ BitVec.ofBool b

/-- `b : a[7:1]`. -/
def shiftInHigh (a : Byte) (b : Bool) : Byte := BitVec.ofBool b ++ a.extractLsb' 1 7

/-- Z unaffected, N and H cleared, C the bit rotated out. -/
def Flags.rotate (f : Flags) (out : Bool) : Flags := { f with n := false, h := false, c := out }

/-! ## Flag-only instructions (45_control.md R170, R171) -/

/-- Z unaffected, N and H cleared, C set. -/
def Flags.scf (f : Flags) : Flags := { f with n := false, h := false, c := true }

/-- Z unaffected, N and H cleared, C inverted. -/
def Flags.ccf (f : Flags) : Flags := { f with n := false, h := false, c := !f.c }

end Sys2Proof.Machine
end

