-- ==== Sys2Proof/Syntax.lean ====
section
/-! DEFINITION. The instructions (30_encoding.md R80 to R84): one constructor of `Instr` for each row of
opcode_table.json, named after the row's canonical spelling (R88): `mHL` is the memory operand `(HL)`, `n` an 8-bit
immediate, `nn` a 16-bit immediate, `d` a displacement. Beside it the operand names the rules use, and for each rule
that covers several rows the map from the rule's operands to the row's constructor. -/

namespace Sys2Proof

/-- The seven 8-bit general registers (10_state.md R20). -/
inductive Reg8 where
  | a | b | c | d | e | h | l
  deriving DecidableEq, Repr

/-- The three register pairs (10_state.md R22). -/
inductive RegPair where
  | bc | de | hl
  deriving DecidableEq, Repr

/-- The operand `rr` (30_encoding.md R73): a pair, or SP. -/
inductive Reg16 where
  | pair (p : RegPair)
  | sp
  deriving DecidableEq, Repr

/-- The second operand of the 8-bit ALU instructions (42_arith.md R130): a register, or the memory byte at HL. -/
inductive Operand where
  | reg (r : Reg8)
  | atHL
  deriving DecidableEq, Repr

/-- The condition of JR cc,d (30_encoding.md R74). -/
inductive Cond where
  | nz | z | nc | c
  deriving DecidableEq, Repr

/-- The instructions: one constructor for each row of opcode_table.json, in the table's order. -/
inductive Instr where
  | nop
  | ld_BC_nn (nn : Word)
  | ld_mBC_A
  | inc_BC
  | inc_B
  | dec_B
  | ld_B_n (n : Byte)
  | rlca
  | add_HL_BC
  | ld_A_mBC
  | dec_BC
  | inc_C
  | dec_C
  | ld_C_n (n : Byte)
  | rrca
  | stop
  | ld_DE_nn (nn : Word)
  | ld_mDE_A
  | inc_DE
  | inc_D
  | dec_D
  | ld_D_n (n : Byte)
  | rla
  | jr_d (d : Byte)
  | add_HL_DE
  | ld_A_mDE
  | dec_DE
  | inc_E
  | dec_E
  | ld_E_n (n : Byte)
  | rra
  | jr_NZ_d (d : Byte)
  | ld_HL_nn (nn : Word)
  | ldi_mHL_A
  | inc_HL
  | inc_H
  | dec_H
  | ld_H_n (n : Byte)
  | daa
  | jr_Z_d (d : Byte)
  | add_HL_HL
  | ldi_A_mHL
  | dec_HL
  | inc_L
  | dec_L
  | ld_L_n (n : Byte)
  | jr_NC_d (d : Byte)
  | ld_SP_nn (nn : Word)
  | ldd_mHL_A
  | inc_SP
  | inc_mHL
  | dec_mHL
  | ld_mHL_n (n : Byte)
  | scf
  | jr_C_d (d : Byte)
  | add_HL_SP
  | ldd_A_mHL
  | dec_SP
  | inc_A
  | dec_A
  | ld_A_n (n : Byte)
  | ccf
  | ld_B_B
  | ld_B_C
  | ld_B_D
  | ld_B_E
  | ld_B_H
  | ld_B_L
  | ld_B_mHL
  | ld_B_A
  | ld_C_B
  | ld_C_C
  | ld_C_D
  | ld_C_E
  | ld_C_H
  | ld_C_L
  | ld_C_mHL
  | ld_C_A
  | ld_D_B
  | ld_D_C
  | ld_D_D
  | ld_D_E
  | ld_D_H
  | ld_D_L
  | ld_D_mHL
  | ld_D_A
  | ld_E_B
  | ld_E_C
  | ld_E_D
  | ld_E_E
  | ld_E_H
  | ld_E_L
  | ld_E_mHL
  | ld_E_A
  | ld_H_B
  | ld_H_C
  | ld_H_D
  | ld_H_E
  | ld_H_H
  | ld_H_L
  | ld_H_mHL
  | ld_H_A
  | ld_L_B
  | ld_L_C
  | ld_L_D
  | ld_L_E
  | ld_L_H
  | ld_L_L
  | ld_L_mHL
  | ld_L_A
  | ld_mHL_B
  | ld_mHL_C
  | ld_mHL_D
  | ld_mHL_E
  | ld_mHL_H
  | ld_mHL_L
  | halt
  | ld_mHL_A
  | ld_A_B
  | ld_A_C
  | ld_A_D
  | ld_A_E
  | ld_A_H
  | ld_A_L
  | ld_A_mHL
  | ld_A_A
  | add_A_B
  | add_A_C
  | add_A_D
  | add_A_E
  | add_A_H
  | add_A_L
  | add_A_mHL
  | add_A_A
  | adc_A_B
  | adc_A_C
  | adc_A_D
  | adc_A_E
  | adc_A_H
  | adc_A_L
  | adc_A_mHL
  | adc_A_A
  | sub_B
  | sub_C
  | sub_D
  | sub_E
  | sub_H
  | sub_L
  | sub_mHL
  | sub_A
  | sbc_A_B
  | sbc_A_C
  | sbc_A_D
  | sbc_A_E
  | sbc_A_H
  | sbc_A_L
  | sbc_A_mHL
  | sbc_A_A
  | and_B
  | and_C
  | and_D
  | and_E
  | and_H
  | and_L
  | and_mHL
  | and_A
  deriving DecidableEq, Repr

/-! ## The rows of one rule, by the rule's operands -/

namespace Instr

/-- LD r,n (40_loads.md R100). -/
def ldImm : Reg8 → Byte → Instr
  | .a, n => .ld_A_n n
  | .b, n => .ld_B_n n
  | .c, n => .ld_C_n n
  | .d, n => .ld_D_n n
  | .e, n => .ld_E_n n
  | .h, n => .ld_H_n n
  | .l, n => .ld_L_n n

/-- LD rr,nn (40_loads.md R102). -/
def ldImm16 : Reg16 → Word → Instr
  | .pair .bc, nn => .ld_BC_nn nn
  | .pair .de, nn => .ld_DE_nn nn
  | .pair .hl, nn => .ld_HL_nn nn
  | .sp, nn => .ld_SP_nn nn

/-- LD r,r' (40_loads.md R103): destination first. -/
def ldReg : Reg8 → Reg8 → Instr
  | .a, .a => .ld_A_A
  | .a, .b => .ld_A_B
  | .a, .c => .ld_A_C
  | .a, .d => .ld_A_D
  | .a, .e => .ld_A_E
  | .a, .h => .ld_A_H
  | .a, .l => .ld_A_L
  | .b, .a => .ld_B_A
  | .b, .b => .ld_B_B
  | .b, .c => .ld_B_C
  | .b, .d => .ld_B_D
  | .b, .e => .ld_B_E
  | .b, .h => .ld_B_H
  | .b, .l => .ld_B_L
  | .c, .a => .ld_C_A
  | .c, .b => .ld_C_B
  | .c, .c => .ld_C_C
  | .c, .d => .ld_C_D
  | .c, .e => .ld_C_E
  | .c, .h => .ld_C_H
  | .c, .l => .ld_C_L
  | .d, .a => .ld_D_A
  | .d, .b => .ld_D_B
  | .d, .c => .ld_D_C
  | .d, .d => .ld_D_D
  | .d, .e => .ld_D_E
  | .d, .h => .ld_D_H
  | .d, .l => .ld_D_L
  | .e, .a => .ld_E_A
  | .e, .b => .ld_E_B
  | .e, .c => .ld_E_C
  | .e, .d => .ld_E_D
  | .e, .e => .ld_E_E
  | .e, .h => .ld_E_H
  | .e, .l => .ld_E_L
  | .h, .a => .ld_H_A
  | .h, .b => .ld_H_B
  | .h, .c => .ld_H_C
  | .h, .d => .ld_H_D
  | .h, .e => .ld_H_E
  | .h, .h => .ld_H_H
  | .h, .l => .ld_H_L
  | .l, .a => .ld_L_A
  | .l, .b => .ld_L_B
  | .l, .c => .ld_L_C
  | .l, .d => .ld_L_D
  | .l, .e => .ld_L_E
  | .l, .h => .ld_L_H
  | .l, .l => .ld_L_L

/-- LD r,(HL) (40_loads.md R104). -/
def ldFromHL : Reg8 → Instr
  | .a => .ld_A_mHL
  | .b => .ld_B_mHL
  | .c => .ld_C_mHL
  | .d => .ld_D_mHL
  | .e => .ld_E_mHL
  | .h => .ld_H_mHL
  | .l => .ld_L_mHL

/-- LD (HL),r (40_loads.md R105). -/
def ldToHL : Reg8 → Instr
  | .a => .ld_mHL_A
  | .b => .ld_mHL_B
  | .c => .ld_mHL_C
  | .d => .ld_mHL_D
  | .e => .ld_mHL_E
  | .h => .ld_mHL_H
  | .l => .ld_mHL_L

/-- INC r (41_inc_dec.md R120). -/
def inc8 : Reg8 → Instr
  | .a => .inc_A
  | .b => .inc_B
  | .c => .inc_C
  | .d => .inc_D
  | .e => .inc_E
  | .h => .inc_H
  | .l => .inc_L

/-- DEC r (41_inc_dec.md R121). -/
def dec8 : Reg8 → Instr
  | .a => .dec_A
  | .b => .dec_B
  | .c => .dec_C
  | .d => .dec_D
  | .e => .dec_E
  | .h => .dec_H
  | .l => .dec_L

/-- INC rr (41_inc_dec.md R124). -/
def inc16 : Reg16 → Instr
  | .pair .bc => .inc_BC
  | .pair .de => .inc_DE
  | .pair .hl => .inc_HL
  | .sp => .inc_SP

/-- DEC rr (41_inc_dec.md R125). -/
def dec16 : Reg16 → Instr
  | .pair .bc => .dec_BC
  | .pair .de => .dec_DE
  | .pair .hl => .dec_HL
  | .sp => .dec_SP

/-- ADD HL,rr (42_arith.md R131). -/
def addHL : Reg16 → Instr
  | .pair .bc => .add_HL_BC
  | .pair .de => .add_HL_DE
  | .pair .hl => .add_HL_HL
  | .sp => .add_HL_SP

/-- ADD A,x (42_arith.md R132). -/
def aluAdd : Operand → Instr
  | .reg .a => .add_A_A
  | .reg .b => .add_A_B
  | .reg .c => .add_A_C
  | .reg .d => .add_A_D
  | .reg .e => .add_A_E
  | .reg .h => .add_A_H
  | .reg .l => .add_A_L
  | .atHL => .add_A_mHL

/-- ADC A,x (42_arith.md R133). -/
def aluAdc : Operand → Instr
  | .reg .a => .adc_A_A
  | .reg .b => .adc_A_B
  | .reg .c => .adc_A_C
  | .reg .d => .adc_A_D
  | .reg .e => .adc_A_E
  | .reg .h => .adc_A_H
  | .reg .l => .adc_A_L
  | .atHL => .adc_A_mHL

/-- SUB x (42_arith.md R134). -/
def aluSub : Operand → Instr
  | .reg .a => .sub_A
  | .reg .b => .sub_B
  | .reg .c => .sub_C
  | .reg .d => .sub_D
  | .reg .e => .sub_E
  | .reg .h => .sub_H
  | .reg .l => .sub_L
  | .atHL => .sub_mHL

/-- SBC A,x (42_arith.md R135). -/
def aluSbc : Operand → Instr
  | .reg .a => .sbc_A_A
  | .reg .b => .sbc_A_B
  | .reg .c => .sbc_A_C
  | .reg .d => .sbc_A_D
  | .reg .e => .sbc_A_E
  | .reg .h => .sbc_A_H
  | .reg .l => .sbc_A_L
  | .atHL => .sbc_A_mHL

/-- AND x (42_arith.md R136). -/
def aluAnd : Operand → Instr
  | .reg .a => .and_A
  | .reg .b => .and_B
  | .reg .c => .and_C
  | .reg .d => .and_D
  | .reg .e => .and_E
  | .reg .h => .and_H
  | .reg .l => .and_L
  | .atHL => .and_mHL

/-- JR cc,d (44_jump.md R162). -/
def jrIf : Cond → Byte → Instr
  | .nz, d => .jr_NZ_d d
  | .z, d => .jr_Z_d d
  | .nc, d => .jr_NC_d d
  | .c, d => .jr_C_d d

end Instr

end Sys2Proof
end

