-- ==== Sys2Proof/Machine/Ops.lean ====
section
/-! DEFINITION. The named operations over registers, memory, the bus port, the cycle counter and the processor state. -/

namespace Sys2Proof.Machine

/-! ## Bytes and words -/

/-- `v[7:0]` (00_scope.md R8). -/
def lowByte (v : Word) : Byte := v.extractLsb' 0 8

/-- `v[15:8]` (00_scope.md R8). -/
def highByte (v : Word) : Byte := v.extractLsb' 8 8

/-- `hi : lo` (00_scope.md R8). -/
def joinBytes (hi lo : Byte) : Word := hi ++ lo

/-! ## Registers -/

/-- `x[r]` (10_state.md R20). -/
def State.reg (s : State) : Reg8 → Byte
  | .a => s.a
  | .b => s.b
  | .c => s.c
  | .d => s.d
  | .e => s.e
  | .h => s.h
  | .l => s.l

/-- `x[r] <- v` (10_state.md R20). -/
def State.setReg (s : State) (r : Reg8) (v : Byte) : State :=
  match r with
  | .a => { s with a := v }
  | .b => { s with b := v }
  | .c => { s with c := v }
  | .d => { s with d := v }
  | .e => { s with e := v }
  | .h => { s with h := v }
  | .l => { s with l := v }

/-- The register that holds bits 15-8 of a pair (10_state.md R22). -/
def pairHigh : RegPair → Reg8
  | .bc => .b
  | .de => .d
  | .hl => .h

/-- The register that holds bits 7-0 of a pair (10_state.md R22). -/
def pairLow : RegPair → Reg8
  | .bc => .c
  | .de => .e
  | .hl => .l

/-- `x16[rr]` for a pair: a view of its two registers (10_state.md R22). -/
def State.pair (s : State) (p : RegPair) : Word := joinBytes (s.reg (pairHigh p)) (s.reg (pairLow p))

/-- `x16[rr] <- v` for a pair (10_state.md R22). -/
def State.setPair (s : State) (p : RegPair) (v : Word) : State :=
  (s.setReg (pairHigh p) (highByte v)).setReg (pairLow p) (lowByte v)

/-- The value of `rr`: `sp` if rr = SP, else `x16[rr]` (41_inc_dec.md R124). -/
def State.reg16 (s : State) : Reg16 → Word
  | .pair p => s.pair p
  | .sp => s.sp

/-- `rr <- v`: `sp` is written whole (40_loads.md R102). -/
def State.setReg16 (s : State) (rr : Reg16) (v : Word) : State :=
  match rr with
  | .pair p => s.setPair p v
  | .sp => { s with sp := v }

/-! ## The flat RAM -/

/-- What the byte at key `k` holds. -/
def Memory.readAt : Memory → Nat → Byte
  | [], _ => Config.unlistedByte
  | (k, v) :: rest, n => if k = n then v else Memory.readAt rest n

/-- Put `v` at key `n`, keeping the canonical form: the byte an unlisted address reads as is not listed. -/
def Memory.writeAt (n : Nat) (v : Byte) : Memory → Memory
  | [] => if v = Config.unlistedByte then [] else [(n, v)]
  | (k, w) :: rest =>
    if n < k then
      if v = Config.unlistedByte then (k, w) :: rest else (n, v) :: (k, w) :: rest
    else if n = k then
      if v = Config.unlistedByte then rest else (n, v) :: rest
    else (k, w) :: Memory.writeAt n v rest

/-- `mem[a]` (20_memory.md R60). -/
def Memory.read (m : Memory) (a : Word) : Byte := Memory.readAt m a.toNat

/-- `mem[a] <- v` (20_memory.md R60). -/
def Memory.write (m : Memory) (a : Word) (v : Byte) : Memory := Memory.writeAt a.toNat v m

/-! ## The bus port (20_memory.md R50) -/

/-- The call is made (20_memory.md R59). -/
def State.call (s : State) (k : BusCall) : State := { s with busLog := k :: s.busLog }

/-- What `ReadByte(address)` answers: the byte the flat RAM holds, or what the bus oracle says (20_memory.md R60). -/
def State.busByte (s : State) (address : Word) : Byte :=
  match s.cfg.bus with
  | .flatRam => s.mem.read address
  | .oracle => Config.oracleByte s.busLog address

/-- What `ReadWord(address)` answers: the byte at `address` low, the byte at `address + 1` (mod 65536) high
(20_memory.md R53), or what the bus oracle says. -/
def State.busWord (s : State) (address : Word) : Word :=
  match s.cfg.bus with
  | .flatRam => joinBytes (s.mem.read (address + 1)) (s.mem.read address)
  | .oracle => Config.oracleWord s.busLog address

/-- `MemRead(address, 1)` = `ReadByte(address)` (00_scope.md R11): the byte, and the state after the call. -/
def State.readByte (s : State) (address : Word) : Byte × State :=
  (s.busByte address, s.call (.readByte address))

/-- `MemRead(address, 2)` = `ReadWord(address)` (00_scope.md R11). No instruction uses it (20_memory.md R56). -/
def State.readWord (s : State) (address : Word) : Word × State :=
  (s.busWord address, s.call (.readWord address))

/-- `MemWrite(address, 1, value)` = `WriteByte(value, address)` (00_scope.md R11). What an oracle does with a write is
in its later answers, which see every call. -/
def State.writeByte (s : State) (address : Word) (value : Byte) : State :=
  match s.cfg.bus with
  | .flatRam => { s.call (.writeByte value address) with mem := s.mem.write address value }
  | .oracle => s.call (.writeByte value address)

/-- `MemWrite(address, 2, value)` = `WriteWord(value, address)`: `value[7:0]` at `address`, `value[15:8]` at
`address + 1` (mod 65536) (20_memory.md R53). No instruction uses it (20_memory.md R56). -/
def State.writeWord (s : State) (address value : Word) : State :=
  match s.cfg.bus with
  | .flatRam =>
    { s.call (.writeWord value address) with
      mem := (s.mem.write address (lowByte value)).write (address + 1) (highByte value) }
  | .oracle => s.call (.writeWord value address)

/-! ## Cycles, flags, program counter, processor state -/

/-- `Advance(n)` (70_reset_and_hazards.md R240). -/
def State.advance (s : State) (n : Nat) : State := { s with cyc := s.cyc + n }

/-- The flags are written. -/
def State.setFlags (s : State) (f : Flags) : State := { s with f := f }

/-- `pc <- target` (00_scope.md R11). -/
def State.setPc (s : State) (target : Word) : State := { s with pc := target }

/-- HALTED or TERMINATED is entered (60_exceptions.md R210, R219): only `st` changes. -/
def State.enter (s : State) (st : RunState) : State := { s with st := st }

/-- TAKING AN EXCEPTIONAL EVENT, shared by the decode failure and the error signal: `st` becomes ERROR and nothing else
changes; no register is saved and control goes nowhere (60_exceptions.md R201, R203, R207). -/
def State.enterError (s : State) : State := { s with st := .error }

/-- The way out of a terminal state, in place of a return from exception, which the block has not (60_exceptions.md
R208): `Reset(RESET_VALUES)` (70_reset_and_hazards.md R230). It makes no bus call and leaves what is behind the bus as
it is (R231), and it does not change the parameters the block was built with. -/
def State.hostReset (rv : ResetValues) (s : State) : State := State.launch s.cfg rv s.mem s.busLog

end Sys2Proof.Machine
end

