-- ==== Sys2Proof/Machine/Operands.lean ====
section
/-! DEFINITION. The operand forms: the second operand of the ALU instructions, its cost, and the jump conditions. -/

namespace Sys2Proof.Machine

/-- `operand(z)` (42_arith.md R130): the register, or one `ReadByte` at HL; and the state after it is read. -/
def State.operand (s : State) : Operand → Byte × State
  | .reg r => (s.reg r, s)
  | .atHL => s.readByte (s.pair .hl)

/-- `cost(z)` (42_arith.md R130). -/
def operandCost : Operand → Nat
  | .reg _ => 1
  | .atHL => 2

/-- `cond(cc)` (44_jump.md R160). -/
def condHolds (cc : Cond) (f : Flags) : Bool :=
  match cc with
  | .nz => !f.z
  | .z => f.z
  | .nc => !f.c
  | .c => f.c

end Sys2Proof.Machine
end

