-- ==== Sys2Proof/Machine/Arith.lean ====
section
/-! DEFINITION. The arithmetic and logic instructions (42_arith.md R130 to R137). First the shared operations, then one meaning for
each row. The semantics are the corrected ones of R138, not the historical defects. -/

namespace Sys2Proof.Machine

/-- ADD HL,rr: both operands are read before HL is written (42_arith.md R131). -/
def addToHL (rr : Reg16) (s : State) : State :=
  let a := s.pair .hl
  let b := s.reg16 rr
  ((s.setPair .hl (addWords a b)).setFlags (s.f.addHL a b)).advance 2

/-- ADD A,x (42_arith.md R132). -/
def addA (x : Operand) (s : State) : State :=
  let (v, s') := s.operand x
  ((s'.setReg .a (addBytes s.a v false)).setFlags (Flags.ofAdd s.a v false)).advance (operandCost x)

/-- ADC A,x: the carry-in is exactly 0 or 1 (42_arith.md R133). -/
def adcA (x : Operand) (s : State) : State :=
  let (v, s') := s.operand x
  ((s'.setReg .a (addBytes s.a v s.f.c)).setFlags (Flags.ofAdd s.a v s.f.c)).advance (operandCost x)

/-- SUB x (42_arith.md R134). -/
def subA (x : Operand) (s : State) : State :=
  let (v, s') := s.operand x
  ((s'.setReg .a (subBytes s.a v false)).setFlags (Flags.ofSub s.a v false)).advance (operandCost x)

/-- SBC A,x (42_arith.md R135). -/
def sbcA (x : Operand) (s : State) : State :=
  let (v, s') := s.operand x
  ((s'.setReg .a (subBytes s.a v s.f.c)).setFlags (Flags.ofSub s.a v s.f.c)).advance (operandCost x)

/-- AND x: bitwise (42_arith.md R136). -/
def andA (x : Operand) (s : State) : State :=
  let (v, s') := s.operand x
  ((s'.setReg .a (s.a &&& v)).setFlags (Flags.ofAnd (s.a &&& v))).advance (operandCost x)

/-- DAA (42_arith.md R137). When `DAA_MODE` = unsupported the decoder never gives this instruction (entry 7). -/
def decimalAdjust (s : State) : State :=
  ((s.setReg .a (daaResult s.a s.f)).setFlags (s.f.daa s.a)).advance 1

/-- ADD HL,BC (42_arith.md R131). -/
def execAdd_HL_BC (s : State) : Host.Outcome State Fault Refusal := .next (addToHL (.pair .bc) s)

/-- ADD HL,DE (42_arith.md R131). -/
def execAdd_HL_DE (s : State) : Host.Outcome State Fault Refusal := .next (addToHL (.pair .de) s)

/-- ADD HL,HL (42_arith.md R131). -/
def execAdd_HL_HL (s : State) : Host.Outcome State Fault Refusal := .next (addToHL (.pair .hl) s)

/-- ADD HL,SP (42_arith.md R131). -/
def execAdd_HL_SP (s : State) : Host.Outcome State Fault Refusal := .next (addToHL .sp s)

/-- ADD A,B (42_arith.md R132). -/
def execAdd_A_B (s : State) : Host.Outcome State Fault Refusal := .next (addA (.reg .b) s)

/-- ADD A,C (42_arith.md R132). -/
def execAdd_A_C (s : State) : Host.Outcome State Fault Refusal := .next (addA (.reg .c) s)

/-- ADD A,D (42_arith.md R132). -/
def execAdd_A_D (s : State) : Host.Outcome State Fault Refusal := .next (addA (.reg .d) s)

/-- ADD A,E (42_arith.md R132). -/
def execAdd_A_E (s : State) : Host.Outcome State Fault Refusal := .next (addA (.reg .e) s)

/-- ADD A,H (42_arith.md R132). -/
def execAdd_A_H (s : State) : Host.Outcome State Fault Refusal := .next (addA (.reg .h) s)

/-- ADD A,L (42_arith.md R132). -/
def execAdd_A_L (s : State) : Host.Outcome State Fault Refusal := .next (addA (.reg .l) s)

/-- ADD A,(HL) (42_arith.md R132). -/
def execAdd_A_mHL (s : State) : Host.Outcome State Fault Refusal := .next (addA .atHL s)

/-- ADD A,A (42_arith.md R132). -/
def execAdd_A_A (s : State) : Host.Outcome State Fault Refusal := .next (addA (.reg .a) s)

/-- ADC A,B (42_arith.md R133). -/
def execAdc_A_B (s : State) : Host.Outcome State Fault Refusal := .next (adcA (.reg .b) s)

/-- ADC A,C (42_arith.md R133). -/
def execAdc_A_C (s : State) : Host.Outcome State Fault Refusal := .next (adcA (.reg .c) s)

/-- ADC A,D (42_arith.md R133). -/
def execAdc_A_D (s : State) : Host.Outcome State Fault Refusal := .next (adcA (.reg .d) s)

/-- ADC A,E (42_arith.md R133). -/
def execAdc_A_E (s : State) : Host.Outcome State Fault Refusal := .next (adcA (.reg .e) s)

/-- ADC A,H (42_arith.md R133). -/
def execAdc_A_H (s : State) : Host.Outcome State Fault Refusal := .next (adcA (.reg .h) s)

/-- ADC A,L (42_arith.md R133). -/
def execAdc_A_L (s : State) : Host.Outcome State Fault Refusal := .next (adcA (.reg .l) s)

/-- ADC A,(HL) (42_arith.md R133). -/
def execAdc_A_mHL (s : State) : Host.Outcome State Fault Refusal := .next (adcA .atHL s)

/-- ADC A,A (42_arith.md R133). -/
def execAdc_A_A (s : State) : Host.Outcome State Fault Refusal := .next (adcA (.reg .a) s)

/-- SUB B (42_arith.md R134). -/
def execSub_B (s : State) : Host.Outcome State Fault Refusal := .next (subA (.reg .b) s)

/-- SUB C (42_arith.md R134). -/
def execSub_C (s : State) : Host.Outcome State Fault Refusal := .next (subA (.reg .c) s)

/-- SUB D (42_arith.md R134). -/
def execSub_D (s : State) : Host.Outcome State Fault Refusal := .next (subA (.reg .d) s)

/-- SUB E (42_arith.md R134). -/
def execSub_E (s : State) : Host.Outcome State Fault Refusal := .next (subA (.reg .e) s)

/-- SUB H (42_arith.md R134). -/
def execSub_H (s : State) : Host.Outcome State Fault Refusal := .next (subA (.reg .h) s)

/-- SUB L (42_arith.md R134). -/
def execSub_L (s : State) : Host.Outcome State Fault Refusal := .next (subA (.reg .l) s)

/-- SUB (HL) (42_arith.md R134). -/
def execSub_mHL (s : State) : Host.Outcome State Fault Refusal := .next (subA .atHL s)

/-- SUB A (42_arith.md R134). -/
def execSub_A (s : State) : Host.Outcome State Fault Refusal := .next (subA (.reg .a) s)

/-- SBC A,B (42_arith.md R135). -/
def execSbc_A_B (s : State) : Host.Outcome State Fault Refusal := .next (sbcA (.reg .b) s)

/-- SBC A,C (42_arith.md R135). -/
def execSbc_A_C (s : State) : Host.Outcome State Fault Refusal := .next (sbcA (.reg .c) s)

/-- SBC A,D (42_arith.md R135). -/
def execSbc_A_D (s : State) : Host.Outcome State Fault Refusal := .next (sbcA (.reg .d) s)

/-- SBC A,E (42_arith.md R135). -/
def execSbc_A_E (s : State) : Host.Outcome State Fault Refusal := .next (sbcA (.reg .e) s)

/-- SBC A,H (42_arith.md R135). -/
def execSbc_A_H (s : State) : Host.Outcome State Fault Refusal := .next (sbcA (.reg .h) s)

/-- SBC A,L (42_arith.md R135). -/
def execSbc_A_L (s : State) : Host.Outcome State Fault Refusal := .next (sbcA (.reg .l) s)

/-- SBC A,(HL) (42_arith.md R135). -/
def execSbc_A_mHL (s : State) : Host.Outcome State Fault Refusal := .next (sbcA .atHL s)

/-- SBC A,A (42_arith.md R135). -/
def execSbc_A_A (s : State) : Host.Outcome State Fault Refusal := .next (sbcA (.reg .a) s)

/-- AND B (42_arith.md R136). -/
def execAnd_B (s : State) : Host.Outcome State Fault Refusal := .next (andA (.reg .b) s)

/-- AND C (42_arith.md R136). -/
def execAnd_C (s : State) : Host.Outcome State Fault Refusal := .next (andA (.reg .c) s)

/-- AND D (42_arith.md R136). -/
def execAnd_D (s : State) : Host.Outcome State Fault Refusal := .next (andA (.reg .d) s)

/-- AND E (42_arith.md R136). -/
def execAnd_E (s : State) : Host.Outcome State Fault Refusal := .next (andA (.reg .e) s)

/-- AND H (42_arith.md R136). -/
def execAnd_H (s : State) : Host.Outcome State Fault Refusal := .next (andA (.reg .h) s)

/-- AND L (42_arith.md R136). -/
def execAnd_L (s : State) : Host.Outcome State Fault Refusal := .next (andA (.reg .l) s)

/-- AND (HL) (42_arith.md R136). -/
def execAnd_mHL (s : State) : Host.Outcome State Fault Refusal := .next (andA .atHL s)

/-- AND A (42_arith.md R136). -/
def execAnd_A (s : State) : Host.Outcome State Fault Refusal := .next (andA (.reg .a) s)

/-- DAA (42_arith.md R137). -/
def execDaa (s : State) : Host.Outcome State Fault Refusal := .next (decimalAdjust s)

end Sys2Proof.Machine
end

