-- ==== Sys2Proof/Machine/Control.lean ====
section
/-! DEFINITION. The flag-only and control instructions (45_control.md R170 to R174). -/

namespace Sys2Proof.Machine

/-- SCF and CCF: the flags alone (45_control.md R170, R171). -/
def flagsOnly (s : State) (f : Flags) : State := (s.setFlags f).advance 1

/-- STOP and HALT: the processor state, and one cycle (45_control.md R173, R174). -/
def stopIn (st : RunState) (s : State) : State := (s.enter st).advance 1

/-- SCF (45_control.md R170). -/
def execScf (s : State) : Host.Outcome State Fault Refusal := .next (flagsOnly s (s.f.scf))

/-- CCF (45_control.md R171). -/
def execCcf (s : State) : Host.Outcome State Fault Refusal := .next (flagsOnly s (s.f.ccf))

/-- NOP (45_control.md R172). -/
def execNop (s : State) : Host.Outcome State Fault Refusal := .next (s.advance 1)

/-- STOP (45_control.md R173). -/
def execStop (s : State) : Host.Outcome State Fault Refusal := .next (stopIn .terminated s)

/-- HALT (45_control.md R174). -/
def execHalt (s : State) : Host.Outcome State Fault Refusal := .next (stopIn .halted s)

end Sys2Proof.Machine
end

