-- ==== Sys2Proof/Machine/IncDec.lean ====
section
/-! DEFINITION. The increment and decrement instructions (41_inc_dec.md R120 to R125). First the shared operations, then one meaning
for each row. -/

namespace Sys2Proof.Machine

/-- INC r (41_inc_dec.md R120). -/
def inc8 (r : Reg8) (s : State) : State :=
  let old := s.reg r
  ((s.setReg r (incByte old)).setFlags (s.f.inc old)).advance 1

/-- DEC r (41_inc_dec.md R121). -/
def dec8 (r : Reg8) (s : State) : State :=
  let old := s.reg r
  ((s.setReg r (decByte old)).setFlags (s.f.dec old)).advance 1

/-- INC (HL): a read, then a write at the same address (41_inc_dec.md R122). -/
def incMem (s : State) : State :=
  let address := s.pair .hl
  let (old, s') := s.readByte address
  ((s'.writeByte address (incByte old)).setFlags (s.f.inc old)).advance 3

/-- DEC (HL): a read, then a write at the same address (41_inc_dec.md R123). -/
def decMem (s : State) : State :=
  let address := s.pair .hl
  let (old, s') := s.readByte address
  ((s'.writeByte address (decByte old)).setFlags (s.f.dec old)).advance 3

/-- INC rr: no flag changes (41_inc_dec.md R124). -/
def inc16 (rr : Reg16) (s : State) : State := (s.setReg16 rr (s.reg16 rr + 1)).advance 2

/-- DEC rr: no flag changes (41_inc_dec.md R125). -/
def dec16 (rr : Reg16) (s : State) : State := (s.setReg16 rr (s.reg16 rr - 1)).advance 2

/-- INC B (41_inc_dec.md R120). -/
def execInc_B (s : State) : Host.Outcome State Fault Refusal := .next (inc8 .b s)

/-- INC C (41_inc_dec.md R120). -/
def execInc_C (s : State) : Host.Outcome State Fault Refusal := .next (inc8 .c s)

/-- INC D (41_inc_dec.md R120). -/
def execInc_D (s : State) : Host.Outcome State Fault Refusal := .next (inc8 .d s)

/-- INC E (41_inc_dec.md R120). -/
def execInc_E (s : State) : Host.Outcome State Fault Refusal := .next (inc8 .e s)

/-- INC H (41_inc_dec.md R120). -/
def execInc_H (s : State) : Host.Outcome State Fault Refusal := .next (inc8 .h s)

/-- INC L (41_inc_dec.md R120). -/
def execInc_L (s : State) : Host.Outcome State Fault Refusal := .next (inc8 .l s)

/-- INC A (41_inc_dec.md R120). -/
def execInc_A (s : State) : Host.Outcome State Fault Refusal := .next (inc8 .a s)

/-- DEC B (41_inc_dec.md R121). -/
def execDec_B (s : State) : Host.Outcome State Fault Refusal := .next (dec8 .b s)

/-- DEC C (41_inc_dec.md R121). -/
def execDec_C (s : State) : Host.Outcome State Fault Refusal := .next (dec8 .c s)

/-- DEC D (41_inc_dec.md R121). -/
def execDec_D (s : State) : Host.Outcome State Fault Refusal := .next (dec8 .d s)

/-- DEC E (41_inc_dec.md R121). -/
def execDec_E (s : State) : Host.Outcome State Fault Refusal := .next (dec8 .e s)

/-- DEC H (41_inc_dec.md R121). -/
def execDec_H (s : State) : Host.Outcome State Fault Refusal := .next (dec8 .h s)

/-- DEC L (41_inc_dec.md R121). -/
def execDec_L (s : State) : Host.Outcome State Fault Refusal := .next (dec8 .l s)

/-- DEC A (41_inc_dec.md R121). -/
def execDec_A (s : State) : Host.Outcome State Fault Refusal := .next (dec8 .a s)

/-- INC (HL) (41_inc_dec.md R122). -/
def execInc_mHL (s : State) : Host.Outcome State Fault Refusal := .next (incMem s)

/-- DEC (HL) (41_inc_dec.md R123). -/
def execDec_mHL (s : State) : Host.Outcome State Fault Refusal := .next (decMem s)

/-- INC BC (41_inc_dec.md R124). -/
def execInc_BC (s : State) : Host.Outcome State Fault Refusal := .next (inc16 (.pair .bc) s)

/-- INC DE (41_inc_dec.md R124). -/
def execInc_DE (s : State) : Host.Outcome State Fault Refusal := .next (inc16 (.pair .de) s)

/-- INC HL (41_inc_dec.md R124). -/
def execInc_HL (s : State) : Host.Outcome State Fault Refusal := .next (inc16 (.pair .hl) s)

/-- INC SP (41_inc_dec.md R124). -/
def execInc_SP (s : State) : Host.Outcome State Fault Refusal := .next (inc16 .sp s)

/-- DEC BC (41_inc_dec.md R125). -/
def execDec_BC (s : State) : Host.Outcome State Fault Refusal := .next (dec16 (.pair .bc) s)

/-- DEC DE (41_inc_dec.md R125). -/
def execDec_DE (s : State) : Host.Outcome State Fault Refusal := .next (dec16 (.pair .de) s)

/-- DEC HL (41_inc_dec.md R125). -/
def execDec_HL (s : State) : Host.Outcome State Fault Refusal := .next (dec16 (.pair .hl) s)

/-- DEC SP (41_inc_dec.md R125). -/
def execDec_SP (s : State) : Host.Outcome State Fault Refusal := .next (dec16 .sp s)

end Sys2Proof.Machine
end

