-- ==== Sys2Proof/Machine/Jump.lean ====
section
/-! DEFINITION. The relative jumps (44_jump.md R160 to R163). `pc` already holds the next-instruction address (30_encoding.md R91). -/

namespace Sys2Proof.Machine

/-- `trunc_16(pc + sext_16(imm8))` (44_jump.md R161). -/
def jumpTarget (pc : Word) (d : Byte) : Word := pc + d.signExtend 16

/-- JR d (44_jump.md R161). -/
def jumpRelative (d : Byte) (s : State) : State := (s.setPc (jumpTarget s.pc d)).advance 3

/-- The cost of a taken JR cc,d (44_jump.md R162). -/
def takenCost (c : Config) : Nat :=
  match c.jrCcCycles with
  | .canonical => 3
  | .historical => 2

/-- JR cc,d (44_jump.md R162). -/
def jumpIf (cc : Cond) (d : Byte) (s : State) : State :=
  if condHolds cc s.f then (s.setPc (jumpTarget s.pc d)).advance (takenCost s.cfg) else s.advance 2

/-- JR d (44_jump.md R161). -/
def execJr_d (d : Byte) (s : State) : Host.Outcome State Fault Refusal := .next (jumpRelative d s)

/-- JR NZ,d (44_jump.md R162). -/
def execJr_NZ_d (d : Byte) (s : State) : Host.Outcome State Fault Refusal := .next (jumpIf .nz d s)

/-- JR Z,d (44_jump.md R162). -/
def execJr_Z_d (d : Byte) (s : State) : Host.Outcome State Fault Refusal := .next (jumpIf .z d s)

/-- JR NC,d (44_jump.md R162). -/
def execJr_NC_d (d : Byte) (s : State) : Host.Outcome State Fault Refusal := .next (jumpIf .nc d s)

/-- JR C,d (44_jump.md R162). -/
def execJr_C_d (d : Byte) (s : State) : Host.Outcome State Fault Refusal := .next (jumpIf .c d s)

end Sys2Proof.Machine
end

