-- ==== Sys2Proof/Machine/Loads.lean ====
section
/-! DEFINITION. The load instructions (40_loads.md R100 to R111). In every rule `pc` already holds the next-instruction address
(30_encoding.md R91). First the shared operations, then one meaning for each row. -/

namespace Sys2Proof.Machine

/-- LD r,n: `x[r] <- imm8` (40_loads.md R100). -/
def ldImm (r : Reg8) (n : Byte) (s : State) : State := (s.setReg r n).advance 2

/-- LD (HL),n: `MemWrite(x16[HL], 1, imm8)` (40_loads.md R101). -/
def ldMemImm (n : Byte) (s : State) : State := (s.writeByte (s.pair .hl) n).advance 3

/-- LD rr,nn: the pair's two registers, or SP whole (40_loads.md R102). -/
def ldImm16 (rr : Reg16) (nn : Word) (s : State) : State := (s.setReg16 rr nn).advance 3

/-- LD r,r': `x[r] <- x[r']` (40_loads.md R103). -/
def ldReg (r r' : Reg8) (s : State) : State := (s.setReg r (s.reg r')).advance 1

/-- LD r,(HL), LD A,(BC), LD A,(DE): the byte at the pair, read before the register is written (40_loads.md R104, R106). -/
def loadReg (r : Reg8) (p : RegPair) (s : State) : State :=
  let (t, s') := s.readByte (s.pair p)
  (s'.setReg r t).advance 2

/-- LD (HL),r, LD (BC),A, LD (DE),A (40_loads.md R105, R107). -/
def storeReg (p : RegPair) (r : Reg8) (s : State) : State := (s.writeByte (s.pair p) (s.reg r)).advance 2

/-- LDI (HL),A and LDD (HL),A: store A at HL, then step HL, mod 65536 (40_loads.md R108, R110). -/
def storeStep (step : Word → Word) (s : State) : State :=
  ((s.writeByte (s.pair .hl) s.a).setPair .hl (step (s.pair .hl))).advance 2

/-- LDI A,(HL) and LDD A,(HL): load A from HL, then step HL, mod 65536 (40_loads.md R109, R111). -/
def loadStep (step : Word → Word) (s : State) : State :=
  let (t, s') := s.readByte (s.pair .hl)
  ((s'.setReg .a t).setPair .hl (step (s.pair .hl))).advance 2

/-- LD B,n (40_loads.md R100). -/
def execLd_B_n (n : Byte) (s : State) : Host.Outcome State Fault Refusal := .next (ldImm .b n s)

/-- LD C,n (40_loads.md R100). -/
def execLd_C_n (n : Byte) (s : State) : Host.Outcome State Fault Refusal := .next (ldImm .c n s)

/-- LD D,n (40_loads.md R100). -/
def execLd_D_n (n : Byte) (s : State) : Host.Outcome State Fault Refusal := .next (ldImm .d n s)

/-- LD E,n (40_loads.md R100). -/
def execLd_E_n (n : Byte) (s : State) : Host.Outcome State Fault Refusal := .next (ldImm .e n s)

/-- LD H,n (40_loads.md R100). -/
def execLd_H_n (n : Byte) (s : State) : Host.Outcome State Fault Refusal := .next (ldImm .h n s)

/-- LD L,n (40_loads.md R100). -/
def execLd_L_n (n : Byte) (s : State) : Host.Outcome State Fault Refusal := .next (ldImm .l n s)

/-- LD A,n (40_loads.md R100). -/
def execLd_A_n (n : Byte) (s : State) : Host.Outcome State Fault Refusal := .next (ldImm .a n s)

/-- LD (HL),n (40_loads.md R101). -/
def execLd_mHL_n (n : Byte) (s : State) : Host.Outcome State Fault Refusal := .next (ldMemImm n s)

/-- LD BC,nn (40_loads.md R102). -/
def execLd_BC_nn (nn : Word) (s : State) : Host.Outcome State Fault Refusal := .next (ldImm16 (.pair .bc) nn s)

/-- LD DE,nn (40_loads.md R102). -/
def execLd_DE_nn (nn : Word) (s : State) : Host.Outcome State Fault Refusal := .next (ldImm16 (.pair .de) nn s)

/-- LD HL,nn (40_loads.md R102). -/
def execLd_HL_nn (nn : Word) (s : State) : Host.Outcome State Fault Refusal := .next (ldImm16 (.pair .hl) nn s)

/-- LD SP,nn (40_loads.md R102). -/
def execLd_SP_nn (nn : Word) (s : State) : Host.Outcome State Fault Refusal := .next (ldImm16 .sp nn s)

/-- LD B,B (40_loads.md R103). -/
def execLd_B_B (s : State) : Host.Outcome State Fault Refusal := .next (ldReg .b .b s)

/-- LD B,C (40_loads.md R103). -/
def execLd_B_C (s : State) : Host.Outcome State Fault Refusal := .next (ldReg .b .c s)

/-- LD B,D (40_loads.md R103). -/
def execLd_B_D (s : State) : Host.Outcome State Fault Refusal := .next (ldReg .b .d s)

/-- LD B,E (40_loads.md R103). -/
def execLd_B_E (s : State) : Host.Outcome State Fault Refusal := .next (ldReg .b .e s)

/-- LD B,H (40_loads.md R103). -/
def execLd_B_H (s : State) : Host.Outcome State Fault Refusal := .next (ldReg .b .h s)

/-- LD B,L (40_loads.md R103). -/
def execLd_B_L (s : State) : Host.Outcome State Fault Refusal := .next (ldReg .b .l s)

/-- LD B,A (40_loads.md R103). -/
def execLd_B_A (s : State) : Host.Outcome State Fault Refusal := .next (ldReg .b .a s)

/-- LD C,B (40_loads.md R103). -/
def execLd_C_B (s : State) : Host.Outcome State Fault Refusal := .next (ldReg .c .b s)

/-- LD C,C (40_loads.md R103). -/
def execLd_C_C (s : State) : Host.Outcome State Fault Refusal := .next (ldReg .c .c s)

/-- LD C,D (40_loads.md R103). -/
def execLd_C_D (s : State) : Host.Outcome State Fault Refusal := .next (ldReg .c .d s)

/-- LD C,E (40_loads.md R103). -/
def execLd_C_E (s : State) : Host.Outcome State Fault Refusal := .next (ldReg .c .e s)

/-- LD C,H (40_loads.md R103). -/
def execLd_C_H (s : State) : Host.Outcome State Fault Refusal := .next (ldReg .c .h s)

/-- LD C,L (40_loads.md R103). -/
def execLd_C_L (s : State) : Host.Outcome State Fault Refusal := .next (ldReg .c .l s)

/-- LD C,A (40_loads.md R103). -/
def execLd_C_A (s : State) : Host.Outcome State Fault Refusal := .next (ldReg .c .a s)

/-- LD D,B (40_loads.md R103). -/
def execLd_D_B (s : State) : Host.Outcome State Fault Refusal := .next (ldReg .d .b s)

/-- LD D,C (40_loads.md R103). -/
def execLd_D_C (s : State) : Host.Outcome State Fault Refusal := .next (ldReg .d .c s)

/-- LD D,D (40_loads.md R103). -/
def execLd_D_D (s : State) : Host.Outcome State Fault Refusal := .next (ldReg .d .d s)

/-- LD D,E (40_loads.md R103). -/
def execLd_D_E (s : State) : Host.Outcome State Fault Refusal := .next (ldReg .d .e s)

/-- LD D,H (40_loads.md R103). -/
def execLd_D_H (s : State) : Host.Outcome State Fault Refusal := .next (ldReg .d .h s)

/-- LD D,L (40_loads.md R103). -/
def execLd_D_L (s : State) : Host.Outcome State Fault Refusal := .next (ldReg .d .l s)

/-- LD D,A (40_loads.md R103). -/
def execLd_D_A (s : State) : Host.Outcome State Fault Refusal := .next (ldReg .d .a s)

/-- LD E,B (40_loads.md R103). -/
def execLd_E_B (s : State) : Host.Outcome State Fault Refusal := .next (ldReg .e .b s)

/-- LD E,C (40_loads.md R103). -/
def execLd_E_C (s : State) : Host.Outcome State Fault Refusal := .next (ldReg .e .c s)

/-- LD E,D (40_loads.md R103). -/
def execLd_E_D (s : State) : Host.Outcome State Fault Refusal := .next (ldReg .e .d s)

/-- LD E,E (40_loads.md R103). -/
def execLd_E_E (s : State) : Host.Outcome State Fault Refusal := .next (ldReg .e .e s)

/-- LD E,H (40_loads.md R103). -/
def execLd_E_H (s : State) : Host.Outcome State Fault Refusal := .next (ldReg .e .h s)

/-- LD E,L (40_loads.md R103). -/
def execLd_E_L (s : State) : Host.Outcome State Fault Refusal := .next (ldReg .e .l s)

/-- LD E,A (40_loads.md R103). -/
def execLd_E_A (s : State) : Host.Outcome State Fault Refusal := .next (ldReg .e .a s)

/-- LD H,B (40_loads.md R103). -/
def execLd_H_B (s : State) : Host.Outcome State Fault Refusal := .next (ldReg .h .b s)

/-- LD H,C (40_loads.md R103). -/
def execLd_H_C (s : State) : Host.Outcome State Fault Refusal := .next (ldReg .h .c s)

/-- LD H,D (40_loads.md R103). -/
def execLd_H_D (s : State) : Host.Outcome State Fault Refusal := .next (ldReg .h .d s)

/-- LD H,E (40_loads.md R103). -/
def execLd_H_E (s : State) : Host.Outcome State Fault Refusal := .next (ldReg .h .e s)

/-- LD H,H (40_loads.md R103). -/
def execLd_H_H (s : State) : Host.Outcome State Fault Refusal := .next (ldReg .h .h s)

/-- LD H,L (40_loads.md R103). -/
def execLd_H_L (s : State) : Host.Outcome State Fault Refusal := .next (ldReg .h .l s)

/-- LD H,A (40_loads.md R103). -/
def execLd_H_A (s : State) : Host.Outcome State Fault Refusal := .next (ldReg .h .a s)

/-- LD L,B (40_loads.md R103). -/
def execLd_L_B (s : State) : Host.Outcome State Fault Refusal := .next (ldReg .l .b s)

/-- LD L,C (40_loads.md R103). -/
def execLd_L_C (s : State) : Host.Outcome State Fault Refusal := .next (ldReg .l .c s)

/-- LD L,D (40_loads.md R103). -/
def execLd_L_D (s : State) : Host.Outcome State Fault Refusal := .next (ldReg .l .d s)

/-- LD L,E (40_loads.md R103). -/
def execLd_L_E (s : State) : Host.Outcome State Fault Refusal := .next (ldReg .l .e s)

/-- LD L,H (40_loads.md R103). -/
def execLd_L_H (s : State) : Host.Outcome State Fault Refusal := .next (ldReg .l .h s)

/-- LD L,L (40_loads.md R103). -/
def execLd_L_L (s : State) : Host.Outcome State Fault Refusal := .next (ldReg .l .l s)

/-- LD L,A (40_loads.md R103). -/
def execLd_L_A (s : State) : Host.Outcome State Fault Refusal := .next (ldReg .l .a s)

/-- LD A,B (40_loads.md R103). -/
def execLd_A_B (s : State) : Host.Outcome State Fault Refusal := .next (ldReg .a .b s)

/-- LD A,C (40_loads.md R103). -/
def execLd_A_C (s : State) : Host.Outcome State Fault Refusal := .next (ldReg .a .c s)

/-- LD A,D (40_loads.md R103). -/
def execLd_A_D (s : State) : Host.Outcome State Fault Refusal := .next (ldReg .a .d s)

/-- LD A,E (40_loads.md R103). -/
def execLd_A_E (s : State) : Host.Outcome State Fault Refusal := .next (ldReg .a .e s)

/-- LD A,H (40_loads.md R103). -/
def execLd_A_H (s : State) : Host.Outcome State Fault Refusal := .next (ldReg .a .h s)

/-- LD A,L (40_loads.md R103). -/
def execLd_A_L (s : State) : Host.Outcome State Fault Refusal := .next (ldReg .a .l s)

/-- LD A,A (40_loads.md R103). -/
def execLd_A_A (s : State) : Host.Outcome State Fault Refusal := .next (ldReg .a .a s)

/-- LD B,(HL) (40_loads.md R104). -/
def execLd_B_mHL (s : State) : Host.Outcome State Fault Refusal := .next (loadReg .b .hl s)

/-- LD C,(HL) (40_loads.md R104). -/
def execLd_C_mHL (s : State) : Host.Outcome State Fault Refusal := .next (loadReg .c .hl s)

/-- LD D,(HL) (40_loads.md R104). -/
def execLd_D_mHL (s : State) : Host.Outcome State Fault Refusal := .next (loadReg .d .hl s)

/-- LD E,(HL) (40_loads.md R104). -/
def execLd_E_mHL (s : State) : Host.Outcome State Fault Refusal := .next (loadReg .e .hl s)

/-- LD H,(HL) (40_loads.md R104). -/
def execLd_H_mHL (s : State) : Host.Outcome State Fault Refusal := .next (loadReg .h .hl s)

/-- LD L,(HL) (40_loads.md R104). -/
def execLd_L_mHL (s : State) : Host.Outcome State Fault Refusal := .next (loadReg .l .hl s)

/-- LD A,(HL) (40_loads.md R104). -/
def execLd_A_mHL (s : State) : Host.Outcome State Fault Refusal := .next (loadReg .a .hl s)

/-- LD (HL),B (40_loads.md R105). -/
def execLd_mHL_B (s : State) : Host.Outcome State Fault Refusal := .next (storeReg .hl .b s)

/-- LD (HL),C (40_loads.md R105). -/
def execLd_mHL_C (s : State) : Host.Outcome State Fault Refusal := .next (storeReg .hl .c s)

/-- LD (HL),D (40_loads.md R105). -/
def execLd_mHL_D (s : State) : Host.Outcome State Fault Refusal := .next (storeReg .hl .d s)

/-- LD (HL),E (40_loads.md R105). -/
def execLd_mHL_E (s : State) : Host.Outcome State Fault Refusal := .next (storeReg .hl .e s)

/-- LD (HL),H (40_loads.md R105). -/
def execLd_mHL_H (s : State) : Host.Outcome State Fault Refusal := .next (storeReg .hl .h s)

/-- LD (HL),L (40_loads.md R105). -/
def execLd_mHL_L (s : State) : Host.Outcome State Fault Refusal := .next (storeReg .hl .l s)

/-- LD (HL),A (40_loads.md R105). -/
def execLd_mHL_A (s : State) : Host.Outcome State Fault Refusal := .next (storeReg .hl .a s)

/-- LD A,(BC) (40_loads.md R106). -/
def execLd_A_mBC (s : State) : Host.Outcome State Fault Refusal := .next (loadReg .a .bc s)

/-- LD A,(DE) (40_loads.md R106). -/
def execLd_A_mDE (s : State) : Host.Outcome State Fault Refusal := .next (loadReg .a .de s)

/-- LD (BC),A (40_loads.md R107). -/
def execLd_mBC_A (s : State) : Host.Outcome State Fault Refusal := .next (storeReg .bc .a s)

/-- LD (DE),A (40_loads.md R107). -/
def execLd_mDE_A (s : State) : Host.Outcome State Fault Refusal := .next (storeReg .de .a s)

/-- LDI (HL),A (40_loads.md R108). -/
def execLdi_mHL_A (s : State) : Host.Outcome State Fault Refusal := .next (storeStep (· + 1) s)

/-- LDI A,(HL) (40_loads.md R109). -/
def execLdi_A_mHL (s : State) : Host.Outcome State Fault Refusal := .next (loadStep (· + 1) s)

/-- LDD (HL),A (40_loads.md R110). -/
def execLdd_mHL_A (s : State) : Host.Outcome State Fault Refusal := .next (storeStep (· - 1) s)

/-- LDD A,(HL) (40_loads.md R111). -/
def execLdd_A_mHL (s : State) : Host.Outcome State Fault Refusal := .next (loadStep (· - 1) s)

end Sys2Proof.Machine
end

