-- ==== Sys2Proof/Machine/Rotate.lean ====
section
/-! DEFINITION. The accumulator rotates (43_rotate.md R150 to R153). Z is unaffected, as the source says (93_implementation_defined.md
I4). First the shared operations, then one meaning for each row. -/

namespace Sys2Proof.Machine

/-- `a[7]`. -/
def highBit (a : Byte) : Bool := a.getLsbD 7

/-- `a[0]`. -/
def lowBit (a : Byte) : Bool := a.getLsbD 0

/-- Rotate A left one bit: `into` becomes bit 0 and the old bit 7 the carry (43_rotate.md R150, R152). -/
def rotateLeft (s : State) (into : Bool) : State :=
  ((s.setReg .a (shiftInLow s.a into)).setFlags (s.f.rotate (highBit s.a))).advance 1

/-- Rotate A right one bit: `into` becomes bit 7 and the old bit 0 the carry (43_rotate.md R151, R153). -/
def rotateRight (s : State) (into : Bool) : State :=
  ((s.setReg .a (shiftInHigh s.a into)).setFlags (s.f.rotate (lowBit s.a))).advance 1

/-- RLCA (43_rotate.md R150). -/
def execRlca (s : State) : Host.Outcome State Fault Refusal := .next (rotateLeft s (highBit s.a))

/-- RRCA (43_rotate.md R151). -/
def execRrca (s : State) : Host.Outcome State Fault Refusal := .next (rotateRight s (lowBit s.a))

/-- RLA (43_rotate.md R152). -/
def execRla (s : State) : Host.Outcome State Fault Refusal := .next (rotateLeft s s.f.c)

/-- RRA (43_rotate.md R153). -/
def execRra (s : State) : Host.Outcome State Fault Refusal := .next (rotateRight s s.f.c)

end Sys2Proof.Machine
end

