-- ==== Sys2Proof/WellFormed.lean ====
section
/-! DEFINITION. Which instructions the block has. The widths of the operands are in their types (00_scope.md R7), and
every value of an operand is legal (30_encoding.md R76), so the one check left is that DAA is there. -/

namespace Sys2Proof

/-- Whether the block has the instruction: DAA only when `DAA_MODE` = implemented (42_arith.md R137, 30_encoding.md R84). -/
def Instr.wf (c : Config) (i : Instr) : Bool :=
  i != .daa || c.daaMode == .implemented

end Sys2Proof
end

