-- ==== Sys2Proof/Decode.lean ====
section
/-! DEFINITION. The decoder (30_encoding.md R70 to R93), total on any bytes, and after it the encoder. The opcode map is
the sixteen-by-sixteen grid of R83, one function for each line of it (the last arm of a
line stands for its dashes; on a line without dashes no value reaches it). -/

namespace Sys2Proof

/-- Why bytes decode to no instruction. -/
inductive DecodeError where
  /-- The opcode byte is not admitted (30_encoding.md R85). -/
  | notAdmitted (opcode : Byte)
  /-- 0x27 when `DAA_MODE` = unsupported (30_encoding.md R85, 42_arith.md R137). -/
  | daaUnsupported
  /-- The bytes end before the instruction does. The machine never meets this: it fetches what it needs (R92). -/
  | truncated
  deriving DecidableEq, Repr

/-- What one opcode byte stands for: its format (30_encoding.md R71) and the instruction, less its immediate. -/
inductive Row where
  /-- One byte. -/
  | f0 (i : Instr)
  /-- The opcode and an unsigned byte. -/
  | f1n (make : Byte → Instr)
  /-- The opcode and a displacement byte. -/
  | f1d (make : Byte → Instr)
  /-- The opcode and a byte that is read and ignored (STOP). -/
  | f1s (i : Instr)
  /-- The opcode and a little-endian word. -/
  | f2 (make : Word → Instr)

/-- The length of an instruction of the format (30_encoding.md R71). -/
def Row.length : Row → Nat
  | .f0 _ => 1
  | .f1n _ => 2
  | .f1d _ => 2
  | .f1s _ => 2
  | .f2 _ => 3

/-- `imm16 = b2 : b1` (30_encoding.md R75). -/
def imm16 (b1 b2 : Byte) : Word := b2 ++ b1

/-- The format of STOP (30_encoding.md R71, 45_control.md R173). -/
def stopRow (c : Config) : Row :=
  match c.stopLength with
  | .one => .f0 .stop
  | .two => .f1s .stop

namespace OpcodeMap

/-- Line 0x of the map of 30_encoding.md R83. -/
def line0 (x : BitVec 4) : Option Row :=
  match x with
  | 0x0#4 => some (.f0 .nop)
  | 0x1#4 => some (.f2 .ld_BC_nn)
  | 0x2#4 => some (.f0 .ld_mBC_A)
  | 0x3#4 => some (.f0 .inc_BC)
  | 0x4#4 => some (.f0 .inc_B)
  | 0x5#4 => some (.f0 .dec_B)
  | 0x6#4 => some (.f1n .ld_B_n)
  | 0x7#4 => some (.f0 .rlca)
  | 0x9#4 => some (.f0 .add_HL_BC)
  | 0xA#4 => some (.f0 .ld_A_mBC)
  | 0xB#4 => some (.f0 .dec_BC)
  | 0xC#4 => some (.f0 .inc_C)
  | 0xD#4 => some (.f0 .dec_C)
  | 0xE#4 => some (.f1n .ld_C_n)
  | 0xF#4 => some (.f0 .rrca)
  | _ => none

/-- Line 1x of the map of 30_encoding.md R83. -/
def line1 (c : Config) (x : BitVec 4) : Option Row :=
  match x with
  | 0x0#4 => some (stopRow c)
  | 0x1#4 => some (.f2 .ld_DE_nn)
  | 0x2#4 => some (.f0 .ld_mDE_A)
  | 0x3#4 => some (.f0 .inc_DE)
  | 0x4#4 => some (.f0 .inc_D)
  | 0x5#4 => some (.f0 .dec_D)
  | 0x6#4 => some (.f1n .ld_D_n)
  | 0x7#4 => some (.f0 .rla)
  | 0x8#4 => some (.f1d .jr_d)
  | 0x9#4 => some (.f0 .add_HL_DE)
  | 0xA#4 => some (.f0 .ld_A_mDE)
  | 0xB#4 => some (.f0 .dec_DE)
  | 0xC#4 => some (.f0 .inc_E)
  | 0xD#4 => some (.f0 .dec_E)
  | 0xE#4 => some (.f1n .ld_E_n)
  | 0xF#4 => some (.f0 .rra)
  | _ => none

/-- Line 2x of the map of 30_encoding.md R83. -/
def line2 (x : BitVec 4) : Option Row :=
  match x with
  | 0x0#4 => some (.f1d .jr_NZ_d)
  | 0x1#4 => some (.f2 .ld_HL_nn)
  | 0x2#4 => some (.f0 .ldi_mHL_A)
  | 0x3#4 => some (.f0 .inc_HL)
  | 0x4#4 => some (.f0 .inc_H)
  | 0x5#4 => some (.f0 .dec_H)
  | 0x6#4 => some (.f1n .ld_H_n)
  | 0x7#4 => some (.f0 .daa)
  | 0x8#4 => some (.f1d .jr_Z_d)
  | 0x9#4 => some (.f0 .add_HL_HL)
  | 0xA#4 => some (.f0 .ldi_A_mHL)
  | 0xB#4 => some (.f0 .dec_HL)
  | 0xC#4 => some (.f0 .inc_L)
  | 0xD#4 => some (.f0 .dec_L)
  | 0xE#4 => some (.f1n .ld_L_n)
  | _ => none

/-- Line 3x of the map of 30_encoding.md R83. -/
def line3 (x : BitVec 4) : Option Row :=
  match x with
  | 0x0#4 => some (.f1d .jr_NC_d)
  | 0x1#4 => some (.f2 .ld_SP_nn)
  | 0x2#4 => some (.f0 .ldd_mHL_A)
  | 0x3#4 => some (.f0 .inc_SP)
  | 0x4#4 => some (.f0 .inc_mHL)
  | 0x5#4 => some (.f0 .dec_mHL)
  | 0x6#4 => some (.f1n .ld_mHL_n)
  | 0x7#4 => some (.f0 .scf)
  | 0x8#4 => some (.f1d .jr_C_d)
  | 0x9#4 => some (.f0 .add_HL_SP)
  | 0xA#4 => some (.f0 .ldd_A_mHL)
  | 0xB#4 => some (.f0 .dec_SP)
  | 0xC#4 => some (.f0 .inc_A)
  | 0xD#4 => some (.f0 .dec_A)
  | 0xE#4 => some (.f1n .ld_A_n)
  | 0xF#4 => some (.f0 .ccf)
  | _ => none

/-- Line 4x of the map of 30_encoding.md R83. -/
def line4 (x : BitVec 4) : Option Row :=
  match x with
  | 0x0#4 => some (.f0 .ld_B_B)
  | 0x1#4 => some (.f0 .ld_B_C)
  | 0x2#4 => some (.f0 .ld_B_D)
  | 0x3#4 => some (.f0 .ld_B_E)
  | 0x4#4 => some (.f0 .ld_B_H)
  | 0x5#4 => some (.f0 .ld_B_L)
  | 0x6#4 => some (.f0 .ld_B_mHL)
  | 0x7#4 => some (.f0 .ld_B_A)
  | 0x8#4 => some (.f0 .ld_C_B)
  | 0x9#4 => some (.f0 .ld_C_C)
  | 0xA#4 => some (.f0 .ld_C_D)
  | 0xB#4 => some (.f0 .ld_C_E)
  | 0xC#4 => some (.f0 .ld_C_H)
  | 0xD#4 => some (.f0 .ld_C_L)
  | 0xE#4 => some (.f0 .ld_C_mHL)
  | 0xF#4 => some (.f0 .ld_C_A)
  | _ => none

/-- Line 5x of the map of 30_encoding.md R83. -/
def line5 (x : BitVec 4) : Option Row :=
  match x with
  | 0x0#4 => some (.f0 .ld_D_B)
  | 0x1#4 => some (.f0 .ld_D_C)
  | 0x2#4 => some (.f0 .ld_D_D)
  | 0x3#4 => some (.f0 .ld_D_E)
  | 0x4#4 => some (.f0 .ld_D_H)
  | 0x5#4 => some (.f0 .ld_D_L)
  | 0x6#4 => some (.f0 .ld_D_mHL)
  | 0x7#4 => some (.f0 .ld_D_A)
  | 0x8#4 => some (.f0 .ld_E_B)
  | 0x9#4 => some (.f0 .ld_E_C)
  | 0xA#4 => some (.f0 .ld_E_D)
  | 0xB#4 => some (.f0 .ld_E_E)
  | 0xC#4 => some (.f0 .ld_E_H)
  | 0xD#4 => some (.f0 .ld_E_L)
  | 0xE#4 => some (.f0 .ld_E_mHL)
  | 0xF#4 => some (.f0 .ld_E_A)
  | _ => none

/-- Line 6x of the map of 30_encoding.md R83. -/
def line6 (x : BitVec 4) : Option Row :=
  match x with
  | 0x0#4 => some (.f0 .ld_H_B)
  | 0x1#4 => some (.f0 .ld_H_C)
  | 0x2#4 => some (.f0 .ld_H_D)
  | 0x3#4 => some (.f0 .ld_H_E)
  | 0x4#4 => some (.f0 .ld_H_H)
  | 0x5#4 => some (.f0 .ld_H_L)
  | 0x6#4 => some (.f0 .ld_H_mHL)
  | 0x7#4 => some (.f0 .ld_H_A)
  | 0x8#4 => some (.f0 .ld_L_B)
  | 0x9#4 => some (.f0 .ld_L_C)
  | 0xA#4 => some (.f0 .ld_L_D)
  | 0xB#4 => some (.f0 .ld_L_E)
  | 0xC#4 => some (.f0 .ld_L_H)
  | 0xD#4 => some (.f0 .ld_L_L)
  | 0xE#4 => some (.f0 .ld_L_mHL)
  | 0xF#4 => some (.f0 .ld_L_A)
  | _ => none

/-- Line 7x of the map of 30_encoding.md R83. -/
def line7 (x : BitVec 4) : Option Row :=
  match x with
  | 0x0#4 => some (.f0 .ld_mHL_B)
  | 0x1#4 => some (.f0 .ld_mHL_C)
  | 0x2#4 => some (.f0 .ld_mHL_D)
  | 0x3#4 => some (.f0 .ld_mHL_E)
  | 0x4#4 => some (.f0 .ld_mHL_H)
  | 0x5#4 => some (.f0 .ld_mHL_L)
  | 0x6#4 => some (.f0 .halt)
  | 0x7#4 => some (.f0 .ld_mHL_A)
  | 0x8#4 => some (.f0 .ld_A_B)
  | 0x9#4 => some (.f0 .ld_A_C)
  | 0xA#4 => some (.f0 .ld_A_D)
  | 0xB#4 => some (.f0 .ld_A_E)
  | 0xC#4 => some (.f0 .ld_A_H)
  | 0xD#4 => some (.f0 .ld_A_L)
  | 0xE#4 => some (.f0 .ld_A_mHL)
  | 0xF#4 => some (.f0 .ld_A_A)
  | _ => none

/-- Line 8x of the map of 30_encoding.md R83. -/
def line8 (x : BitVec 4) : Option Row :=
  match x with
  | 0x0#4 => some (.f0 .add_A_B)
  | 0x1#4 => some (.f0 .add_A_C)
  | 0x2#4 => some (.f0 .add_A_D)
  | 0x3#4 => some (.f0 .add_A_E)
  | 0x4#4 => some (.f0 .add_A_H)
  | 0x5#4 => some (.f0 .add_A_L)
  | 0x6#4 => some (.f0 .add_A_mHL)
  | 0x7#4 => some (.f0 .add_A_A)
  | 0x8#4 => some (.f0 .adc_A_B)
  | 0x9#4 => some (.f0 .adc_A_C)
  | 0xA#4 => some (.f0 .adc_A_D)
  | 0xB#4 => some (.f0 .adc_A_E)
  | 0xC#4 => some (.f0 .adc_A_H)
  | 0xD#4 => some (.f0 .adc_A_L)
  | 0xE#4 => some (.f0 .adc_A_mHL)
  | 0xF#4 => some (.f0 .adc_A_A)
  | _ => none

/-- Line 9x of the map of 30_encoding.md R83. -/
def line9 (x : BitVec 4) : Option Row :=
  match x with
  | 0x0#4 => some (.f0 .sub_B)
  | 0x1#4 => some (.f0 .sub_C)
  | 0x2#4 => some (.f0 .sub_D)
  | 0x3#4 => some (.f0 .sub_E)
  | 0x4#4 => some (.f0 .sub_H)
  | 0x5#4 => some (.f0 .sub_L)
  | 0x6#4 => some (.f0 .sub_mHL)
  | 0x7#4 => some (.f0 .sub_A)
  | 0x8#4 => some (.f0 .sbc_A_B)
  | 0x9#4 => some (.f0 .sbc_A_C)
  | 0xA#4 => some (.f0 .sbc_A_D)
  | 0xB#4 => some (.f0 .sbc_A_E)
  | 0xC#4 => some (.f0 .sbc_A_H)
  | 0xD#4 => some (.f0 .sbc_A_L)
  | 0xE#4 => some (.f0 .sbc_A_mHL)
  | 0xF#4 => some (.f0 .sbc_A_A)
  | _ => none

/-- Line Ax of the map of 30_encoding.md R83. -/
def lineA (x : BitVec 4) : Option Row :=
  match x with
  | 0x0#4 => some (.f0 .and_B)
  | 0x1#4 => some (.f0 .and_C)
  | 0x2#4 => some (.f0 .and_D)
  | 0x3#4 => some (.f0 .and_E)
  | 0x4#4 => some (.f0 .and_H)
  | 0x5#4 => some (.f0 .and_L)
  | 0x6#4 => some (.f0 .and_mHL)
  | 0x7#4 => some (.f0 .and_A)
  | _ => none

end OpcodeMap

/-- The full map of 30_encoding.md R83: the row of an opcode byte, `none` where the map has a dash. -/
def opcodeMap (c : Config) (op : Byte) : Option Row :=
  let x := op.extractLsb' 0 4
  match op.extractLsb' 4 4 with
  | 0x0#4 => OpcodeMap.line0 x
  | 0x1#4 => OpcodeMap.line1 c x
  | 0x2#4 => OpcodeMap.line2 x
  | 0x3#4 => OpcodeMap.line3 x
  | 0x4#4 => OpcodeMap.line4 x
  | 0x5#4 => OpcodeMap.line5 x
  | 0x6#4 => OpcodeMap.line6 x
  | 0x7#4 => OpcodeMap.line7 x
  | 0x8#4 => OpcodeMap.line8 x
  | 0x9#4 => OpcodeMap.line9 x
  | 0xA#4 => OpcodeMap.lineA x
  | _ => none

/-- The row of an opcode byte, or why there is none (30_encoding.md R85, R93): 0x27 is a decode failure when
`DAA_MODE` = unsupported. -/
def decodeOpcode (c : Config) (op : Byte) : Except DecodeError Row :=
  if op = 0x27#8 ∧ c.daaMode = .unsupported then .error .daaUnsupported
  else
    match opcodeMap c op with
    | some row => .ok row
    | none => .error (.notAdmitted op)

/-- The row's instruction with its immediate bytes taken from `bs`, and the bytes that remain. -/
def Row.take (row : Row) (bs : List Byte) : Except DecodeError (Instr × List Byte) :=
  match row, bs with
  | .f0 i, rest => .ok (i, rest)
  | .f1n make, b1 :: rest => .ok (make b1, rest)
  | .f1d make, b1 :: rest => .ok (make b1, rest)
  | .f1s i, _ :: rest => .ok (i, rest)
  | .f2 make, b1 :: b2 :: rest => .ok (make (imm16 b1 b2), rest)
  | _, _ => .error .truncated

/-- The first instruction of a list of bytes, and the bytes after it. -/
def decode (c : Config) (bs : List Byte) : Except DecodeError (Instr × List Byte) :=
  match bs with
  | [] => .error .truncated
  | op :: rest =>
    match decodeOpcode c op with
    | .error e => .error e
    | .ok row => row.take rest

/-- The low byte of a 16-bit immediate, which the instruction stream holds first (30_encoding.md R75). -/
def immLow (nn : Word) : Byte := nn.extractLsb' 0 8

/-- The high byte of a 16-bit immediate (30_encoding.md R75). -/
def immHigh (nn : Word) : Byte := nn.extractLsb' 8 8

/-- The bytes of an instruction, from the encoding column of opcode_table.json and the formats of 30_encoding.md R71.
DESIGN CHOICE (entry 6): the byte STOP ignores is written 0x00; the decoder takes any. -/
def encode (c : Config) (i : Instr) : List Byte :=
  match i with
  | .nop => [0x00#8]
  | .ld_BC_nn nn => [0x01#8, immLow nn, immHigh nn]
  | .ld_mBC_A => [0x02#8]
  | .inc_BC => [0x03#8]
  | .inc_B => [0x04#8]
  | .dec_B => [0x05#8]
  | .ld_B_n n => [0x06#8, n]
  | .rlca => [0x07#8]
  | .add_HL_BC => [0x09#8]
  | .ld_A_mBC => [0x0A#8]
  | .dec_BC => [0x0B#8]
  | .inc_C => [0x0C#8]
  | .dec_C => [0x0D#8]
  | .ld_C_n n => [0x0E#8, n]
  | .rrca => [0x0F#8]
  | .stop => match c.stopLength with | .one => [0x10#8] | .two => [0x10#8, 0x00#8]
  | .ld_DE_nn nn => [0x11#8, immLow nn, immHigh nn]
  | .ld_mDE_A => [0x12#8]
  | .inc_DE => [0x13#8]
  | .inc_D => [0x14#8]
  | .dec_D => [0x15#8]
  | .ld_D_n n => [0x16#8, n]
  | .rla => [0x17#8]
  | .jr_d d => [0x18#8, d]
  | .add_HL_DE => [0x19#8]
  | .ld_A_mDE => [0x1A#8]
  | .dec_DE => [0x1B#8]
  | .inc_E => [0x1C#8]
  | .dec_E => [0x1D#8]
  | .ld_E_n n => [0x1E#8, n]
  | .rra => [0x1F#8]
  | .jr_NZ_d d => [0x20#8, d]
  | .ld_HL_nn nn => [0x21#8, immLow nn, immHigh nn]
  | .ldi_mHL_A => [0x22#8]
  | .inc_HL => [0x23#8]
  | .inc_H => [0x24#8]
  | .dec_H => [0x25#8]
  | .ld_H_n n => [0x26#8, n]
  | .daa => [0x27#8]
  | .jr_Z_d d => [0x28#8, d]
  | .add_HL_HL => [0x29#8]
  | .ldi_A_mHL => [0x2A#8]
  | .dec_HL => [0x2B#8]
  | .inc_L => [0x2C#8]
  | .dec_L => [0x2D#8]
  | .ld_L_n n => [0x2E#8, n]
  | .jr_NC_d d => [0x30#8, d]
  | .ld_SP_nn nn => [0x31#8, immLow nn, immHigh nn]
  | .ldd_mHL_A => [0x32#8]
  | .inc_SP => [0x33#8]
  | .inc_mHL => [0x34#8]
  | .dec_mHL => [0x35#8]
  | .ld_mHL_n n => [0x36#8, n]
  | .scf => [0x37#8]
  | .jr_C_d d => [0x38#8, d]
  | .add_HL_SP => [0x39#8]
  | .ldd_A_mHL => [0x3A#8]
  | .dec_SP => [0x3B#8]
  | .inc_A => [0x3C#8]
  | .dec_A => [0x3D#8]
  | .ld_A_n n => [0x3E#8, n]
  | .ccf => [0x3F#8]
  | .ld_B_B => [0x40#8]
  | .ld_B_C => [0x41#8]
  | .ld_B_D => [0x42#8]
  | .ld_B_E => [0x43#8]
  | .ld_B_H => [0x44#8]
  | .ld_B_L => [0x45#8]
  | .ld_B_mHL => [0x46#8]
  | .ld_B_A => [0x47#8]
  | .ld_C_B => [0x48#8]
  | .ld_C_C => [0x49#8]
  | .ld_C_D => [0x4A#8]
  | .ld_C_E => [0x4B#8]
  | .ld_C_H => [0x4C#8]
  | .ld_C_L => [0x4D#8]
  | .ld_C_mHL => [0x4E#8]
  | .ld_C_A => [0x4F#8]
  | .ld_D_B => [0x50#8]
  | .ld_D_C => [0x51#8]
  | .ld_D_D => [0x52#8]
  | .ld_D_E => [0x53#8]
  | .ld_D_H => [0x54#8]
  | .ld_D_L => [0x55#8]
  | .ld_D_mHL => [0x56#8]
  | .ld_D_A => [0x57#8]
  | .ld_E_B => [0x58#8]
  | .ld_E_C => [0x59#8]
  | .ld_E_D => [0x5A#8]
  | .ld_E_E => [0x5B#8]
  | .ld_E_H => [0x5C#8]
  | .ld_E_L => [0x5D#8]
  | .ld_E_mHL => [0x5E#8]
  | .ld_E_A => [0x5F#8]
  | .ld_H_B => [0x60#8]
  | .ld_H_C => [0x61#8]
  | .ld_H_D => [0x62#8]
  | .ld_H_E => [0x63#8]
  | .ld_H_H => [0x64#8]
  | .ld_H_L => [0x65#8]
  | .ld_H_mHL => [0x66#8]
  | .ld_H_A => [0x67#8]
  | .ld_L_B => [0x68#8]
  | .ld_L_C => [0x69#8]
  | .ld_L_D => [0x6A#8]
  | .ld_L_E => [0x6B#8]
  | .ld_L_H => [0x6C#8]
  | .ld_L_L => [0x6D#8]
  | .ld_L_mHL => [0x6E#8]
  | .ld_L_A => [0x6F#8]
  | .ld_mHL_B => [0x70#8]
  | .ld_mHL_C => [0x71#8]
  | .ld_mHL_D => [0x72#8]
  | .ld_mHL_E => [0x73#8]
  | .ld_mHL_H => [0x74#8]
  | .ld_mHL_L => [0x75#8]
  | .halt => [0x76#8]
  | .ld_mHL_A => [0x77#8]
  | .ld_A_B => [0x78#8]
  | .ld_A_C => [0x79#8]
  | .ld_A_D => [0x7A#8]
  | .ld_A_E => [0x7B#8]
  | .ld_A_H => [0x7C#8]
  | .ld_A_L => [0x7D#8]
  | .ld_A_mHL => [0x7E#8]
  | .ld_A_A => [0x7F#8]
  | .add_A_B => [0x80#8]
  | .add_A_C => [0x81#8]
  | .add_A_D => [0x82#8]
  | .add_A_E => [0x83#8]
  | .add_A_H => [0x84#8]
  | .add_A_L => [0x85#8]
  | .add_A_mHL => [0x86#8]
  | .add_A_A => [0x87#8]
  | .adc_A_B => [0x88#8]
  | .adc_A_C => [0x89#8]
  | .adc_A_D => [0x8A#8]
  | .adc_A_E => [0x8B#8]
  | .adc_A_H => [0x8C#8]
  | .adc_A_L => [0x8D#8]
  | .adc_A_mHL => [0x8E#8]
  | .adc_A_A => [0x8F#8]
  | .sub_B => [0x90#8]
  | .sub_C => [0x91#8]
  | .sub_D => [0x92#8]
  | .sub_E => [0x93#8]
  | .sub_H => [0x94#8]
  | .sub_L => [0x95#8]
  | .sub_mHL => [0x96#8]
  | .sub_A => [0x97#8]
  | .sbc_A_B => [0x98#8]
  | .sbc_A_C => [0x99#8]
  | .sbc_A_D => [0x9A#8]
  | .sbc_A_E => [0x9B#8]
  | .sbc_A_H => [0x9C#8]
  | .sbc_A_L => [0x9D#8]
  | .sbc_A_mHL => [0x9E#8]
  | .sbc_A_A => [0x9F#8]
  | .and_B => [0xA0#8]
  | .and_C => [0xA1#8]
  | .and_D => [0xA2#8]
  | .and_E => [0xA3#8]
  | .and_H => [0xA4#8]
  | .and_L => [0xA5#8]
  | .and_mHL => [0xA6#8]
  | .and_A => [0xA7#8]

/-- Byte `k` of an instruction whose bits are numbered as opcode_table.json numbers them, the first byte lowest. -/
def tableByte (w k : Nat) : Byte := BitVec.ofNat 8 (w / 256 ^ k)

/-- The three bytes an instruction of `nbits` bits is fetched from, the bits above `nbits` zero. -/
def tableBytes (nbits w : Nat) : List Byte :=
  let v := w % 2 ^ nbits
  [tableByte v 0, tableByte v 1, tableByte v 2]

/-- The instruction the decoder reads from the bits `w`, with the default parameters. -/
def decodeTableWord (nbits w : Nat) : Option Instr :=
  match decode Config.standard (tableBytes nbits w) with
  | .ok (i, _) => some i
  | .error _ => none

end Sys2Proof
end

