-- ==== Sys2Proof/Machine/Fetch.lean ====
section
/-! DEFINITION. The fetch and decode half of a step (30_encoding.md R90 to R92), and a program's words laid out in memory. -/

namespace Sys2Proof.Machine

/-- What the fetch and decode half of a step ends in. -/
inductive Fetched where
  /-- An instruction, and the state its rule runs in: the fetch calls made, `pc` at the next-instruction address. -/
  | decoded (i : Instr) (s : State)
  /-- A decode failure, and the state after its one bus call: `pc` still at the failing opcode. -/
  | failed (s : State)

/-- The immediate bytes of a row, one `ReadByte` each, `at1` the address after the opcode; then `pc` is set to the
next-instruction address (30_encoding.md R90, R92). Addresses wrap mod 65536. -/
def fetchImmediates (row : Row) (at1 : Word) (s : State) : Fetched :=
  match row with
  | .f0 i => .decoded i (s.setPc at1)
  | .f1n make =>
    let (b1, s1) := s.readByte at1
    .decoded (make b1) (s1.setPc (at1 + 1))
  | .f1d make =>
    let (b1, s1) := s.readByte at1
    .decoded (make b1) (s1.setPc (at1 + 1))
  | .f1s i =>
    let (_, s1) := s.readByte at1
    .decoded i (s1.setPc (at1 + 1))
  | .f2 make =>
    let (b1, s1) := s.readByte at1
    let (b2, s2) := s1.readByte (at1 + 1)
    .decoded (make (imm16 b1 b2)) (s2.setPc (at1 + 2))

/-- The opcode fetch, the decoder, and the immediate fetches (30_encoding.md R90). -/
def fetch (s : State) : Fetched :=
  let (op, s1) := s.readByte s.pc
  match decodeOpcode s.cfg op with
  | .error _ => .failed s1
  | .ok row => fetchImmediates row (s.pc + 1) s1

/-- Bytes laid out from an address up, mod 65536. -/
def Memory.place (m : Memory) (address : Word) : List Byte → Memory
  | [] => m
  | v :: rest => Memory.place (m.write address v) (address + 1) rest

end Sys2Proof.Machine
end

