-- ==== Sys2Proof/Machine/Step.lean ====
section
/-! DEFINITION. One step (30_encoding.md R90), gated by the processor state (60_exceptions.md R211, R212). -/

namespace Sys2Proof.Machine

/-- One `Step` of the host. In NORMAL: fetch, decode, execute, or the decode failure of 60_exceptions.md R201. In HALTED,
TERMINATED and ERROR a `Step` request makes no bus call and changes nothing (R211; entry 8). In EXPECTING_CBP there is
no step (R212). -/
def step (s : State) : Host.Outcome State Fault Refusal :=
  match s.st with
  | .normal =>
    match fetch s with
    | .decoded i s' => exec i s'
    | .failed s' => .next s'.enterError
  | .halted => .next s
  | .terminated => .next s
  | .error => .next s
  | .expectingCbp => .fault .expectingCbpHasNoStep

/-- `s` with the instruction of the bits `w` stored where `step` fetches its next instruction: the three bytes from `pc`
up. So that the very next step fetches them, the bus is the flat RAM and the processor state NORMAL; both already hold
after reset (entry 3). -/
def State.withFetchWord (s : State) (nbits w : Nat) : State :=
  { s with
    mem := Memory.place s.mem s.pc (tableBytes nbits w)
    st := .normal
    cfg := { s.cfg with bus := .flatRam } }

end Sys2Proof.Machine
end

