-- ==== Sys2Proof/Machine/Assembly.lean ====
section
/-! DEFINITION. Assembler syntax (30_encoding.md R88, R89): the canonical spelling of each row, the alternative spellings,
and the displacement an assembler writes for a target address. The machine uses none of it (92_eei_decisions.md D28). -/

namespace Sys2Proof.Machine

/-- The canonical spelling: the source's mnemonic column of opcode_table.json (30_encoding.md R88). -/
def spelling (i : Instr) : String :=
  match i with
  | .nop => "NOP"
  | .ld_BC_nn _ => "LD BC,nn"
  | .ld_mBC_A => "LD (BC),A"
  | .inc_BC => "INC BC"
  | .inc_B => "INC B"
  | .dec_B => "DEC B"
  | .ld_B_n _ => "LD B,n"
  | .rlca => "RLCA"
  | .add_HL_BC => "ADD HL,BC"
  | .ld_A_mBC => "LD A,(BC)"
  | .dec_BC => "DEC BC"
  | .inc_C => "INC C"
  | .dec_C => "DEC C"
  | .ld_C_n _ => "LD C,n"
  | .rrca => "RRCA"
  | .stop => "STOP"
  | .ld_DE_nn _ => "LD DE,nn"
  | .ld_mDE_A => "LD (DE),A"
  | .inc_DE => "INC DE"
  | .inc_D => "INC D"
  | .dec_D => "DEC D"
  | .ld_D_n _ => "LD D,n"
  | .rla => "RLA"
  | .jr_d _ => "JR d"
  | .add_HL_DE => "ADD HL,DE"
  | .ld_A_mDE => "LD A,(DE)"
  | .dec_DE => "DEC DE"
  | .inc_E => "INC E"
  | .dec_E => "DEC E"
  | .ld_E_n _ => "LD E,n"
  | .rra => "RRA"
  | .jr_NZ_d _ => "JR NZ,d"
  | .ld_HL_nn _ => "LD HL,nn"
  | .ldi_mHL_A => "LDI (HL),A"
  | .inc_HL => "INC HL"
  | .inc_H => "INC H"
  | .dec_H => "DEC H"
  | .ld_H_n _ => "LD H,n"
  | .daa => "DAA"
  | .jr_Z_d _ => "JR Z,d"
  | .add_HL_HL => "ADD HL,HL"
  | .ldi_A_mHL => "LDI A,(HL)"
  | .dec_HL => "DEC HL"
  | .inc_L => "INC L"
  | .dec_L => "DEC L"
  | .ld_L_n _ => "LD L,n"
  | .jr_NC_d _ => "JR NC,d"
  | .ld_SP_nn _ => "LD SP,nn"
  | .ldd_mHL_A => "LDD (HL),A"
  | .inc_SP => "INC SP"
  | .inc_mHL => "INC (HL)"
  | .dec_mHL => "DEC (HL)"
  | .ld_mHL_n _ => "LD (HL),n"
  | .scf => "SCF"
  | .jr_C_d _ => "JR C,d"
  | .add_HL_SP => "ADD HL,SP"
  | .ldd_A_mHL => "LDD A,(HL)"
  | .dec_SP => "DEC SP"
  | .inc_A => "INC A"
  | .dec_A => "DEC A"
  | .ld_A_n _ => "LD A,n"
  | .ccf => "CCF"
  | .ld_B_B => "LD B,B"
  | .ld_B_C => "LD B,C"
  | .ld_B_D => "LD B,D"
  | .ld_B_E => "LD B,E"
  | .ld_B_H => "LD B,H"
  | .ld_B_L => "LD B,L"
  | .ld_B_mHL => "LD B,(HL)"
  | .ld_B_A => "LD B,A"
  | .ld_C_B => "LD C,B"
  | .ld_C_C => "LD C,C"
  | .ld_C_D => "LD C,D"
  | .ld_C_E => "LD C,E"
  | .ld_C_H => "LD C,H"
  | .ld_C_L => "LD C,L"
  | .ld_C_mHL => "LD C,(HL)"
  | .ld_C_A => "LD C,A"
  | .ld_D_B => "LD D,B"
  | .ld_D_C => "LD D,C"
  | .ld_D_D => "LD D,D"
  | .ld_D_E => "LD D,E"
  | .ld_D_H => "LD D,H"
  | .ld_D_L => "LD D,L"
  | .ld_D_mHL => "LD D,(HL)"
  | .ld_D_A => "LD D,A"
  | .ld_E_B => "LD E,B"
  | .ld_E_C => "LD E,C"
  | .ld_E_D => "LD E,D"
  | .ld_E_E => "LD E,E"
  | .ld_E_H => "LD E,H"
  | .ld_E_L => "LD E,L"
  | .ld_E_mHL => "LD E,(HL)"
  | .ld_E_A => "LD E,A"
  | .ld_H_B => "LD H,B"
  | .ld_H_C => "LD H,C"
  | .ld_H_D => "LD H,D"
  | .ld_H_E => "LD H,E"
  | .ld_H_H => "LD H,H"
  | .ld_H_L => "LD H,L"
  | .ld_H_mHL => "LD H,(HL)"
  | .ld_H_A => "LD H,A"
  | .ld_L_B => "LD L,B"
  | .ld_L_C => "LD L,C"
  | .ld_L_D => "LD L,D"
  | .ld_L_E => "LD L,E"
  | .ld_L_H => "LD L,H"
  | .ld_L_L => "LD L,L"
  | .ld_L_mHL => "LD L,(HL)"
  | .ld_L_A => "LD L,A"
  | .ld_mHL_B => "LD (HL),B"
  | .ld_mHL_C => "LD (HL),C"
  | .ld_mHL_D => "LD (HL),D"
  | .ld_mHL_E => "LD (HL),E"
  | .ld_mHL_H => "LD (HL),H"
  | .ld_mHL_L => "LD (HL),L"
  | .halt => "HALT"
  | .ld_mHL_A => "LD (HL),A"
  | .ld_A_B => "LD A,B"
  | .ld_A_C => "LD A,C"
  | .ld_A_D => "LD A,D"
  | .ld_A_E => "LD A,E"
  | .ld_A_H => "LD A,H"
  | .ld_A_L => "LD A,L"
  | .ld_A_mHL => "LD A,(HL)"
  | .ld_A_A => "LD A,A"
  | .add_A_B => "ADD A,B"
  | .add_A_C => "ADD A,C"
  | .add_A_D => "ADD A,D"
  | .add_A_E => "ADD A,E"
  | .add_A_H => "ADD A,H"
  | .add_A_L => "ADD A,L"
  | .add_A_mHL => "ADD A,(HL)"
  | .add_A_A => "ADD A,A"
  | .adc_A_B => "ADC A,B"
  | .adc_A_C => "ADC A,C"
  | .adc_A_D => "ADC A,D"
  | .adc_A_E => "ADC A,E"
  | .adc_A_H => "ADC A,H"
  | .adc_A_L => "ADC A,L"
  | .adc_A_mHL => "ADC A,(HL)"
  | .adc_A_A => "ADC A,A"
  | .sub_B => "SUB B"
  | .sub_C => "SUB C"
  | .sub_D => "SUB D"
  | .sub_E => "SUB E"
  | .sub_H => "SUB H"
  | .sub_L => "SUB L"
  | .sub_mHL => "SUB (HL)"
  | .sub_A => "SUB A"
  | .sbc_A_B => "SBC A,B"
  | .sbc_A_C => "SBC A,C"
  | .sbc_A_D => "SBC A,D"
  | .sbc_A_E => "SBC A,E"
  | .sbc_A_H => "SBC A,H"
  | .sbc_A_L => "SBC A,L"
  | .sbc_A_mHL => "SBC A,(HL)"
  | .sbc_A_A => "SBC A,A"
  | .and_B => "AND B"
  | .and_C => "AND C"
  | .and_D => "AND D"
  | .and_E => "AND E"
  | .and_H => "AND H"
  | .and_L => "AND L"
  | .and_mHL => "AND (HL)"
  | .and_A => "AND A"

/-- The alternative spellings of the same encodings (30_encoding.md R89). -/
def alternativeSpellings (i : Instr) : List String :=
  match i with
  | .ldi_mHL_A => ["LD (HL+),A", "LD (HLI),A"]
  | .ldi_A_mHL => ["LD A,(HL+)", "LD A,(HLI)"]
  | .ldd_mHL_A => ["LD (HL-),A", "LD (HLD),A"]
  | .ldd_A_mHL => ["LD A,(HL-)", "LD A,(HLD)"]
  | .add_A_B => ["ADD B"]
  | .add_A_C => ["ADD C"]
  | .add_A_D => ["ADD D"]
  | .add_A_E => ["ADD E"]
  | .add_A_H => ["ADD H"]
  | .add_A_L => ["ADD L"]
  | .add_A_A => ["ADD A"]
  | .adc_A_B => ["ADC B"]
  | .adc_A_C => ["ADC C"]
  | .adc_A_D => ["ADC D"]
  | .adc_A_E => ["ADC E"]
  | .adc_A_H => ["ADC H"]
  | .adc_A_L => ["ADC L"]
  | .adc_A_A => ["ADC A"]
  | .sub_B => ["SUB A,B"]
  | .sub_C => ["SUB A,C"]
  | .sub_D => ["SUB A,D"]
  | .sub_E => ["SUB A,E"]
  | .sub_H => ["SUB A,H"]
  | .sub_L => ["SUB A,L"]
  | .sub_A => ["SUB A,A"]
  | .sbc_A_B => ["SBC B"]
  | .sbc_A_C => ["SBC C"]
  | .sbc_A_D => ["SBC D"]
  | .sbc_A_E => ["SBC E"]
  | .sbc_A_H => ["SBC H"]
  | .sbc_A_L => ["SBC L"]
  | .sbc_A_A => ["SBC A"]
  | .and_B => ["AND A,B"]
  | .and_C => ["AND A,C"]
  | .and_D => ["AND A,D"]
  | .and_E => ["AND A,E"]
  | .and_H => ["AND A,H"]
  | .and_L => ["AND A,L"]
  | .and_A => ["AND A,A"]
  | _ => []

/-- The displacement byte of a JR at `opcodeAddress` whose operand is written as the target address:
`d = T - (opcode address + 2)`, which must lie in -128..127 (30_encoding.md R88). -/
def displacementTo (opcodeAddress target : Word) : Option Byte :=
  let d : Int := (target.toNat : Int) - (opcodeAddress.toNat + 2)
  if -128 ≤ d ∧ d ≤ 127 then some (BitVec.ofInt 8 d) else none

end Sys2Proof.Machine
end

