-- ==== Sys2Proof/Machine/HostPort.lean ====
section
/-! DEFINITION. The control port and the observation port (10_state.md R45 to R47): what the host can do to the block
between steps, and what it can read. -/

namespace Sys2Proof.Machine

/-- `SignalError` (60_exceptions.md R203): NORMAL to ERROR, and no effect in any other state. -/
def State.signalError (s : State) : State :=
  match s.st with
  | .normal => s.enterError
  | .halted => s
  | .terminated => s
  | .error => s
  | .expectingCbp => s

/-- The flags by name. -/
inductive FlagName where
  | z | n | h | c
  deriving DecidableEq, Repr

/-- One flag. -/
def Flags.get (f : Flags) : FlagName → Bool
  | .z => f.z
  | .n => f.n
  | .h => f.h
  | .c => f.c

/-- One flag is written; the others stay (10_state.md R29). -/
def Flags.set (f : Flags) (k : FlagName) (v : Bool) : Flags :=
  match k with
  | .z => { f with z := v }
  | .n => { f with n := v }
  | .h => { f with h := v }
  | .c => { f with c := v }

/-- What `Load` writes, and the value (10_state.md R47): never `cyc` or `st`. -/
inductive LoadTarget where
  | reg (r : Reg8) (v : Byte)
  | pair (p : RegPair) (v : Word)
  | pc (v : Word)
  | sp (v : Word)
  | flag (k : FlagName) (v : Bool)
  deriving DecidableEq, Repr

/-- `Load` (10_state.md R47). -/
def State.load (s : State) : LoadTarget → State
  | .reg r v => s.setReg r v
  | .pair p v => s.setPair p v
  | .pc v => s.setPc v
  | .sp v => { s with sp := v }
  | .flag k v => s.setFlags (s.f.set k v)

/-- The actions of the control port (10_state.md R46). -/
inductive HostAction where
  | step
  | reset (rv : ResetValues)
  | signalError
  | load (t : LoadTarget)
  deriving DecidableEq, Repr

/-- One action of the host. Only `Step` can stop the machine. -/
def act (k : HostAction) (s : State) : Host.Outcome State Fault Refusal :=
  match k with
  | .step => step s
  | .reset rv => .next (s.hostReset rv)
  | .signalError => .next s.signalError
  | .load t => .next (s.load t)

/-- The code of a processor state at the observation port (10_state.md R33). -/
def RunState.code : RunState → Nat
  | .normal => 0
  | .halted => 1
  | .terminated => 2
  | .error => 3
  | .expectingCbp => 4

/-- What the host reads between steps (10_state.md R45). -/
structure Observation where
  a : Byte
  b : Byte
  c : Byte
  d : Byte
  e : Byte
  h : Byte
  l : Byte
  bc : Word
  de : Word
  hl : Word
  pc : Word
  sp : Word
  z : Bool
  n : Bool
  hf : Bool
  cf : Bool
  packedFlags : BitVec 4
  cyc : Nat
  stCode : Nat
  deriving DecidableEq, Repr

/-- The observation port (10_state.md R45). Reading has no effect on the state: it answers no state. -/
def observe (s : State) : Observation where
  a := s.a
  b := s.b
  c := s.c
  d := s.d
  e := s.e
  h := s.h
  l := s.l
  bc := s.pair .bc
  de := s.pair .de
  hl := s.pair .hl
  pc := s.pc
  sp := s.sp
  z := s.f.z
  n := s.f.n
  hf := s.f.h
  cf := s.f.c
  packedFlags := s.f.packed
  cyc := s.cyc
  stCode := s.st.code

end Sys2Proof.Machine
end

