-- ==== Sys2Proof/Safety.lean ====
section
/-! DEFINITION. The words the claims are written in: the forms of the instructions, one for each rule of 40_loads.md to
45_control.md, and for each form what the spec's tables say of it (the cycle cost of 70_reset_and_hazards.md R241, the
registers of 10_state.md R21, the flags of R30, the bus calls of 20_memory.md R56); what it is to change only some parts
of the state; the invariant; and the cost of a run. Nothing here is used by the machine. -/

namespace Sys2Proof

/-- The instruction forms: one constructor for each instruction rule, its operands as the rule has them. -/
inductive Form where
  | ldImm (r : Reg8) (n : Byte)
  | ldMemImm (n : Byte)
  | ldPairImm (rr : Reg16) (nn : Word)
  | ldReg (r r' : Reg8)
  | ldFromHL (r : Reg8)
  | ldToHL (r : Reg8)
  | ldAFromPair (p : RegPair)
  | ldPairFromA (p : RegPair)
  | ldiStore
  | ldiLoad
  | lddStore
  | lddLoad
  | incReg (r : Reg8)
  | decReg (r : Reg8)
  | incMem
  | decMem
  | incPair (rr : Reg16)
  | decPair (rr : Reg16)
  | addHL (rr : Reg16)
  | add (x : Operand)
  | adc (x : Operand)
  | sub (x : Operand)
  | sbc (x : Operand)
  | and (x : Operand)
  | daa
  | rlca
  | rrca
  | rla
  | rra
  | jr (d : Byte)
  | jrIf (cc : Cond) (d : Byte)
  | scf
  | ccf
  | nop
  | stop
  | halt
  deriving DecidableEq, Repr

/-- The form of an instruction. -/
def Instr.form : Instr → Form
  | .nop => .nop
  | .ld_BC_nn nn => .ldPairImm (.pair .bc) nn
  | .ld_mBC_A => .ldPairFromA .bc
  | .inc_BC => .incPair (.pair .bc)
  | .inc_B => .incReg .b
  | .dec_B => .decReg .b
  | .ld_B_n n => .ldImm .b n
  | .rlca => .rlca
  | .add_HL_BC => .addHL (.pair .bc)
  | .ld_A_mBC => .ldAFromPair .bc
  | .dec_BC => .decPair (.pair .bc)
  | .inc_C => .incReg .c
  | .dec_C => .decReg .c
  | .ld_C_n n => .ldImm .c n
  | .rrca => .rrca
  | .stop => .stop
  | .ld_DE_nn nn => .ldPairImm (.pair .de) nn
  | .ld_mDE_A => .ldPairFromA .de
  | .inc_DE => .incPair (.pair .de)
  | .inc_D => .incReg .d
  | .dec_D => .decReg .d
  | .ld_D_n n => .ldImm .d n
  | .rla => .rla
  | .jr_d d => .jr d
  | .add_HL_DE => .addHL (.pair .de)
  | .ld_A_mDE => .ldAFromPair .de
  | .dec_DE => .decPair (.pair .de)
  | .inc_E => .incReg .e
  | .dec_E => .decReg .e
  | .ld_E_n n => .ldImm .e n
  | .rra => .rra
  | .jr_NZ_d d => .jrIf .nz d
  | .ld_HL_nn nn => .ldPairImm (.pair .hl) nn
  | .ldi_mHL_A => .ldiStore
  | .inc_HL => .incPair (.pair .hl)
  | .inc_H => .incReg .h
  | .dec_H => .decReg .h
  | .ld_H_n n => .ldImm .h n
  | .daa => .daa
  | .jr_Z_d d => .jrIf .z d
  | .add_HL_HL => .addHL (.pair .hl)
  | .ldi_A_mHL => .ldiLoad
  | .dec_HL => .decPair (.pair .hl)
  | .inc_L => .incReg .l
  | .dec_L => .decReg .l
  | .ld_L_n n => .ldImm .l n
  | .jr_NC_d d => .jrIf .nc d
  | .ld_SP_nn nn => .ldPairImm .sp nn
  | .ldd_mHL_A => .lddStore
  | .inc_SP => .incPair .sp
  | .inc_mHL => .incMem
  | .dec_mHL => .decMem
  | .ld_mHL_n n => .ldMemImm n
  | .scf => .scf
  | .jr_C_d d => .jrIf .c d
  | .add_HL_SP => .addHL .sp
  | .ldd_A_mHL => .lddLoad
  | .dec_SP => .decPair .sp
  | .inc_A => .incReg .a
  | .dec_A => .decReg .a
  | .ld_A_n n => .ldImm .a n
  | .ccf => .ccf
  | .ld_B_B => .ldReg .b .b
  | .ld_B_C => .ldReg .b .c
  | .ld_B_D => .ldReg .b .d
  | .ld_B_E => .ldReg .b .e
  | .ld_B_H => .ldReg .b .h
  | .ld_B_L => .ldReg .b .l
  | .ld_B_mHL => .ldFromHL .b
  | .ld_B_A => .ldReg .b .a
  | .ld_C_B => .ldReg .c .b
  | .ld_C_C => .ldReg .c .c
  | .ld_C_D => .ldReg .c .d
  | .ld_C_E => .ldReg .c .e
  | .ld_C_H => .ldReg .c .h
  | .ld_C_L => .ldReg .c .l
  | .ld_C_mHL => .ldFromHL .c
  | .ld_C_A => .ldReg .c .a
  | .ld_D_B => .ldReg .d .b
  | .ld_D_C => .ldReg .d .c
  | .ld_D_D => .ldReg .d .d
  | .ld_D_E => .ldReg .d .e
  | .ld_D_H => .ldReg .d .h
  | .ld_D_L => .ldReg .d .l
  | .ld_D_mHL => .ldFromHL .d
  | .ld_D_A => .ldReg .d .a
  | .ld_E_B => .ldReg .e .b
  | .ld_E_C => .ldReg .e .c
  | .ld_E_D => .ldReg .e .d
  | .ld_E_E => .ldReg .e .e
  | .ld_E_H => .ldReg .e .h
  | .ld_E_L => .ldReg .e .l
  | .ld_E_mHL => .ldFromHL .e
  | .ld_E_A => .ldReg .e .a
  | .ld_H_B => .ldReg .h .b
  | .ld_H_C => .ldReg .h .c
  | .ld_H_D => .ldReg .h .d
  | .ld_H_E => .ldReg .h .e
  | .ld_H_H => .ldReg .h .h
  | .ld_H_L => .ldReg .h .l
  | .ld_H_mHL => .ldFromHL .h
  | .ld_H_A => .ldReg .h .a
  | .ld_L_B => .ldReg .l .b
  | .ld_L_C => .ldReg .l .c
  | .ld_L_D => .ldReg .l .d
  | .ld_L_E => .ldReg .l .e
  | .ld_L_H => .ldReg .l .h
  | .ld_L_L => .ldReg .l .l
  | .ld_L_mHL => .ldFromHL .l
  | .ld_L_A => .ldReg .l .a
  | .ld_mHL_B => .ldToHL .b
  | .ld_mHL_C => .ldToHL .c
  | .ld_mHL_D => .ldToHL .d
  | .ld_mHL_E => .ldToHL .e
  | .ld_mHL_H => .ldToHL .h
  | .ld_mHL_L => .ldToHL .l
  | .halt => .halt
  | .ld_mHL_A => .ldToHL .a
  | .ld_A_B => .ldReg .a .b
  | .ld_A_C => .ldReg .a .c
  | .ld_A_D => .ldReg .a .d
  | .ld_A_E => .ldReg .a .e
  | .ld_A_H => .ldReg .a .h
  | .ld_A_L => .ldReg .a .l
  | .ld_A_mHL => .ldFromHL .a
  | .ld_A_A => .ldReg .a .a
  | .add_A_B => .add (.reg .b)
  | .add_A_C => .add (.reg .c)
  | .add_A_D => .add (.reg .d)
  | .add_A_E => .add (.reg .e)
  | .add_A_H => .add (.reg .h)
  | .add_A_L => .add (.reg .l)
  | .add_A_mHL => .add .atHL
  | .add_A_A => .add (.reg .a)
  | .adc_A_B => .adc (.reg .b)
  | .adc_A_C => .adc (.reg .c)
  | .adc_A_D => .adc (.reg .d)
  | .adc_A_E => .adc (.reg .e)
  | .adc_A_H => .adc (.reg .h)
  | .adc_A_L => .adc (.reg .l)
  | .adc_A_mHL => .adc .atHL
  | .adc_A_A => .adc (.reg .a)
  | .sub_B => .sub (.reg .b)
  | .sub_C => .sub (.reg .c)
  | .sub_D => .sub (.reg .d)
  | .sub_E => .sub (.reg .e)
  | .sub_H => .sub (.reg .h)
  | .sub_L => .sub (.reg .l)
  | .sub_mHL => .sub .atHL
  | .sub_A => .sub (.reg .a)
  | .sbc_A_B => .sbc (.reg .b)
  | .sbc_A_C => .sbc (.reg .c)
  | .sbc_A_D => .sbc (.reg .d)
  | .sbc_A_E => .sbc (.reg .e)
  | .sbc_A_H => .sbc (.reg .h)
  | .sbc_A_L => .sbc (.reg .l)
  | .sbc_A_mHL => .sbc .atHL
  | .sbc_A_A => .sbc (.reg .a)
  | .and_B => .and (.reg .b)
  | .and_C => .and (.reg .c)
  | .and_D => .and (.reg .d)
  | .and_E => .and (.reg .e)
  | .and_H => .and (.reg .h)
  | .and_L => .and (.reg .l)
  | .and_mHL => .and .atHL
  | .and_A => .and (.reg .a)

namespace Machine

/-! ## What the spec's tables say of a form -/

/-- The register pair of `rr`, as a list of its registers; SP has none. -/
def reg16Regs : Reg16 → List Reg8
  | .pair p => [pairHigh p, pairLow p]
  | .sp => []

/-- The registers an operand names or is addressed by (42_arith.md R130). -/
def operandRegs : Operand → List Reg8
  | .reg r => [r]
  | .atHL => [.h, .l]

/-- The cycle cost table (70_reset_and_hazards.md R241): `taken` says whether the condition of a JR cc,d holds. -/
def Form.cost (c : Config) (taken : Bool) : Form → Nat
  | .ldImm _ _ => 2
  | .ldMemImm _ => 3
  | .ldPairImm _ _ => 3
  | .ldReg _ _ => 1
  | .ldFromHL _ | .ldToHL _ | .ldAFromPair _ | .ldPairFromA _ => 2
  | .ldiStore | .ldiLoad | .lddStore | .lddLoad => 2
  | .incReg _ | .decReg _ => 1
  | .incMem | .decMem => 3
  | .incPair _ | .decPair _ | .addHL _ => 2
  | .add x | .adc x | .sub x | .sbc x | .and x => match x with | .reg _ => 1 | .atHL => 2
  | .daa | .rlca | .rrca | .rla | .rra => 1
  | .jr _ => 3
  | .jrIf _ _ =>
    if taken then match c.jrCcCycles with | .canonical => 3 | .historical => 2
    else 2
  | .scf | .ccf | .nop | .stop | .halt => 1

/-- The registers a form can write (10_state.md R21). -/
def Form.regsWritten : Form → List Reg8
  | .ldImm r _ | .ldReg r _ | .ldFromHL r | .incReg r | .decReg r => [r]
  | .ldPairImm rr _ | .incPair rr | .decPair rr => reg16Regs rr
  | .ldAFromPair _ => [.a]
  | .ldiStore | .lddStore => [.h, .l]
  | .ldiLoad | .lddLoad => [.a, .h, .l]
  | .addHL _ => [.h, .l]
  | .add _ | .adc _ | .sub _ | .sbc _ | .and _ | .daa | .rlca | .rrca | .rla | .rra => [.a]
  | .ldMemImm _ | .ldToHL _ | .ldPairFromA _ | .incMem | .decMem | .jr _ | .jrIf _ _ | .scf | .ccf | .nop | .stop
  | .halt => []

/-- The registers a form reads, those it is addressed by among them (10_state.md R21). -/
def Form.regsRead : Form → List Reg8
  | .ldReg _ r' => [r']
  | .ldMemImm _ | .ldFromHL _ | .incMem | .decMem => [.h, .l]
  | .ldToHL r => [r, .h, .l]
  | .ldAFromPair p => [pairHigh p, pairLow p]
  | .ldPairFromA p => [.a, pairHigh p, pairLow p]
  | .ldiStore | .lddStore => [.a, .h, .l]
  | .ldiLoad | .lddLoad => [.h, .l]
  | .incReg r | .decReg r => [r]
  | .incPair rr | .decPair rr => reg16Regs rr
  | .addHL rr => [.h, .l] ++ reg16Regs rr
  | .add x | .adc x | .sub x | .sbc x | .and x => .a :: operandRegs x
  | .daa | .rlca | .rrca | .rla | .rra => [.a]
  | .ldImm _ _ | .ldPairImm _ _ | .jr _ | .jrIf _ _ | .scf | .ccf | .nop | .stop | .halt => []

/-- The flags a form writes: the entries of 10_state.md R30 that are not a dash. -/
def Form.flagsWritten : Form → List FlagName
  | .incReg _ | .incMem | .decReg _ | .decMem => [.z, .n, .h]
  | .addHL _ => [.n, .h, .c]
  | .add _ | .adc _ | .sub _ | .sbc _ | .and _ => [.z, .n, .h, .c]
  | .daa => [.z, .h, .c]
  | .rlca | .rrca | .rla | .rra | .scf | .ccf => [.n, .h, .c]
  | .ldImm _ _ | .ldMemImm _ | .ldPairImm _ _ | .ldReg _ _ | .ldFromHL _ | .ldToHL _ | .ldAFromPair _ | .ldPairFromA _
  | .ldiStore | .ldiLoad | .lddStore | .lddLoad | .incPair _ | .decPair _ | .jr _ | .jrIf _ _ | .nop | .stop | .halt => []

/-- The flags a form reads: the column "reads" of 10_state.md R30. -/
def Form.flagsRead : Form → List FlagName
  | .adc _ | .sbc _ | .rla | .rra | .ccf => [.c]
  | .daa => [.n, .h, .c]
  | .jrIf cc _ => match cc with | .nz | .z => [.z] | .nc | .c => [.c]
  | .ldImm _ _ | .ldMemImm _ | .ldPairImm _ _ | .ldReg _ _ | .ldFromHL _ | .ldToHL _ | .ldAFromPair _ | .ldPairFromA _
  | .ldiStore | .ldiLoad | .lddStore | .lddLoad | .incReg _ | .decReg _ | .incMem | .decMem | .incPair _ | .decPair _
  | .addHL _ | .add _ | .sub _ | .and _ | .rlca | .rrca | .jr _ | .scf | .nop | .stop | .halt => []

/-- The byte a form stores, and where: the address is the pair the meaning stores through, read in the state the rule
runs in; `none` for a form that stores nothing. -/
def Form.store (s : State) : Form → Option (Word × Byte)
  | .ldMemImm n => some (s.pair .hl, n)
  | .ldToHL r => some (s.pair .hl, s.reg r)
  | .ldPairFromA p => some (s.pair p, s.a)
  | .ldiStore | .lddStore => some (s.pair .hl, s.a)
  | .incMem => some (s.pair .hl, incByte (s.busByte (s.pair .hl)))
  | .decMem => some (s.pair .hl, decByte (s.busByte (s.pair .hl)))
  | .ldImm _ _ | .ldPairImm _ _ | .ldReg _ _ | .ldFromHL _ | .ldAFromPair _ | .ldiLoad | .lddLoad | .incReg _ | .decReg _
  | .incPair _ | .decPair _ | .addHL _ | .add _ | .adc _ | .sub _ | .sbc _ | .and _ | .daa | .rlca | .rrca | .rla | .rra
  | .jr _ | .jrIf _ _ | .scf | .ccf | .nop | .stop | .halt => none

/-- The byte a form loads as data, as the address of its one `ReadByte` (20_memory.md R56). -/
def Form.loadAddress (s : State) : Form → Option Word
  | .ldFromHL _ | .ldiLoad | .lddLoad | .incMem | .decMem => some (s.pair .hl)
  | .ldAFromPair p => some (s.pair p)
  | .add x | .adc x | .sub x | .sbc x | .and x => match x with | .reg _ => none | .atHL => some (s.pair .hl)
  | .ldImm _ _ | .ldMemImm _ | .ldPairImm _ _ | .ldReg _ _ | .ldToHL _ | .ldPairFromA _ | .ldiStore | .lddStore
  | .incReg _ | .decReg _ | .incPair _ | .decPair _ | .addHL _ | .daa | .rlca | .rrca | .rla | .rra
  | .jr _ | .jrIf _ _ | .scf | .ccf | .nop | .stop | .halt => none

/-- The data calls of a form, in the order they are made: the read, then the write (20_memory.md R56, R59). -/
def Form.dataCalls (s : State) (k : Form) : List BusCall :=
  (match Form.loadAddress s k with | some a => [BusCall.readByte a] | none => []) ++
  (match Form.store s k with | some (a, v) => [BusCall.writeByte v a] | none => [])

/-- Whether the condition of a conditional jump holds (44_jump.md R160). -/
def Form.taken (s : State) : Form → Bool
  | .jrIf cc _ => condHolds cc s.f
  | _ => false

/-! ## Changing only some parts -/

/-- The parts of the state an instruction may leave as they were. The cycle counter, the bus calls and the parameters
are the subject of `Ran`. -/
inductive Part where
  | reg (r : Reg8)
  | flag (k : FlagName)
  | pc
  | sp
  | st
  | byte (address : Word)
  deriving DecidableEq, Repr

/-- The part is the same in both states. -/
def Part.Same (s t : State) : Part → Prop
  | .reg r => t.reg r = s.reg r
  | .flag k => t.f.get k = s.f.get k
  | .pc => t.pc = s.pc
  | .sp => t.sp = s.sp
  | .st => t.st = s.st
  | .byte a => t.mem.read a = s.mem.read a

/-- Every register, flag and memory byte, `pc`, `sp` and `st`, but for the parts listed, is as it was. -/
def OnlyChanges (s t : State) (parts : List Part) : Prop := ∀ p, p ∉ parts → p.Same s t

/-- `n` cycles were charged, exactly these bus calls were made, in this order, and the parameters are the same. -/
def Ran (s t : State) (n : Nat) (calls : List BusCall) : Prop :=
  t.cyc = s.cyc + n ∧ t.busLog = calls.reverse ++ s.busLog ∧ t.cfg = s.cfg

/-- The byte at `a` holds `v` if the bus is the flat RAM; with an oracle behind the bus the model's memory is not
touched, and what was stored shows in the oracle's later answers. -/
def Stored (s t : State) (a : Word) (v : Byte) : Prop :=
  t.mem.read a = match s.cfg.bus with | .flatRam => v | .oracle => s.mem.read a

/-- The parts a form can write, from the tables above; `pc` only for the jumps (10_state.md R25), `sp` only where rr = SP
(R26), `st` only for STOP and HALT (60_exceptions.md R210). -/
def Form.writes (s : State) (k : Form) : List Part :=
  (Form.regsWritten k).map Part.reg ++ (Form.flagsWritten k).map Part.flag ++
  (match k with
    | .jr _ | .jrIf _ _ => [Part.pc]
    | .ldPairImm .sp _ | .incPair .sp | .decPair .sp => [Part.sp]
    | .stop | .halt => [Part.st]
    | _ => []) ++
  (match Form.store s k with | some (a, _) => [Part.byte a] | none => [])

/-! ## Encoding fields and operands, as the rules write them -/

/-- The value of a register field y or z (30_encoding.md R72). -/
def regCode : Reg8 → Nat
  | .b => 0
  | .c => 1
  | .d => 2
  | .e => 3
  | .h => 4
  | .l => 5
  | .a => 7

/-- The value of the operand field z; 6 is the memory byte at HL (30_encoding.md R72). -/
def operandCode : Operand → Nat
  | .reg r => regCode r
  | .atHL => 6

/-- The value of the pair field p (30_encoding.md R73). -/
def reg16Code : Reg16 → Nat
  | .pair .bc => 0
  | .pair .de => 1
  | .pair .hl => 2
  | .sp => 3

/-- The value of the condition field cc (30_encoding.md R74). -/
def condCode : Cond → Nat
  | .nz => 0
  | .z => 1
  | .nc => 2
  | .c => 3

/-- An opcode byte. -/
def opcodeByte (n : Nat) : Byte := BitVec.ofNat 8 n

/-- The value of `operand(z)` in the state the rule runs in (42_arith.md R130). -/
def operandValue (s : State) : Operand → Byte
  | .reg r => s.reg r
  | .atHL => s.busByte (s.pair .hl)

/-- The bus calls of reading `operand(z)` (42_arith.md R130). -/
def operandCalls (s : State) : Operand → List BusCall
  | .reg _ => []
  | .atHL => [.readByte (s.pair .hl)]

/-- The state the rule of an instruction of `n` bytes runs in: `n` bytes fetched, one call each, in address order, and
`pc` at the next-instruction address (30_encoding.md R90 to R92). -/
def afterFetch (s : State) (n : Nat) : State :=
  { s with
    pc := s.pc + BitVec.ofNat 16 n
    busLog := ((List.range n).map fun k => BusCall.readByte (s.pc + BitVec.ofNat 16 k)).reverse ++ s.busLog }

/-- A byte that holds two decimal digits. -/
def isBcd (v : Byte) : Bool := decide (v.toNat % 16 ≤ 9) && decide (v.toNat / 16 ≤ 9)

/-- The number two decimal digits stand for. -/
def bcdValue (v : Byte) : Nat := 10 * (v.toNat / 16) + v.toNat % 16

/-- `n` executions of one instruction, one after the other. -/
def repeatExec (i : Instr) : Nat → State → Host.Outcome State Fault Refusal
  | 0, s => .next s
  | k + 1, s =>
    match exec i s with
    | .next t => repeatExec i k t
    | .fault r => .fault r
    | .refused r => .refused r

/-! ## The invariant, terminal states, and runs -/

/-- What every step keeps: the memory list in its canonical form, and EXPECTING_CBP not entered (10_state.md R34). -/
def State.Inv (s : State) : Prop := s.mem.wf = true ∧ s.st ≠ .expectingCbp

/-- HALTED, TERMINATED or ERROR (00_scope.md R13). -/
def RunState.terminal : RunState → Bool
  | .halted | .terminated | .error => true
  | .normal | .expectingCbp => false

/-- The cost of the next step: that of the instruction it executes, and 0 if it executes none (70_reset_and_hazards.md
R240, 60_exceptions.md R201). -/
def stepCost (s : State) : Nat :=
  match s.st with
  | .normal =>
    match fetch s with
    | .decoded i s' => Form.cost s'.cfg (Form.taken s' i.form) i.form
    | .failed _ => 0
  | _ => 0

/-- The sum of the costs of the instructions executed in `k` steps. -/
def runCost : Nat → State → Nat
  | 0, _ => 0
  | k + 1, s =>
    stepCost s + match step s with
      | .next t => runCost k t
      | .fault _ => 0
      | .refused _ => 0

end Machine

end Sys2Proof
end

