-- ==== Sys2Proof/Certificates/Slice0/Obligations.lean ====
section
/-! DEFINITION. The statements for the provers. Each docstring names the rules of spec/ it comes from, and, where a clause
rests on a decision of the spec's own (92_eei_decisions.md) or of the model's (an entry of the log), says so. The words
the statements use (`Ran`, `OnlyChanges`, `Stored`, `Form`, ...) are in Sys2Proof/Safety.lean. Every opcode byte in a
statement (a clause `encode ... = ...` or `decode ... = ...`) is the spec's own choice: 92_eei_decisions.md D2 and D3, and
93_implementation_defined.md G9. -/

open Sys2Proof Sys2Proof.Machine

/-! ## Encoding and decoding -/

/-- 30_encoding.md R71 to R83 (D2): decoding the encoding of any instruction the block has gives it back, with every
operand at every value, whatever bytes follow. -/
def Obligations.DecodeOfEncodeIsTheInstruction : Prop :=
  ∀ (c : Config) (i : Instr) (rest : List Byte), i.wf c = true → decode c (encode c i ++ rest) = .ok (i, rest)

/-- 30_encoding.md R93 (D2): bytes that decode are the encoding of what they decode to, so no two rows share a word; the
one freedom is the byte STOP ignores (45_control.md R173), which the encoder writes as 0x00 (entry 6). -/
def Obligations.DecodedBytesAreTheEncoding : Prop :=
  ∀ (c : Config) (bs : List Byte) (i : Instr) (rest : List Byte), decode c bs = .ok (i, rest) →
    i.wf c = true ∧
    (bs = encode c i ++ rest ∨ (i = .stop ∧ c.stopLength = .two ∧ ∃ x : Byte, bs = 0x10#8 :: x :: rest))

/-- 30_encoding.md R85, R86, R93 (D3): the opcode bytes that are a decode failure are 0x08, 0x2F, 0xA8 to 0xFF (0xCB among
them), and 0x27 when `DAA_MODE` = unsupported; every other byte has a row. -/
def Obligations.RejectedOpcodesAreExactlyThese : Prop :=
  ∀ (c : Config) (op : Byte),
    ((∃ e, decodeOpcode c op = .error e) ↔
      op = 0x08#8 ∨ op = 0x2F#8 ∨ 0xA8 ≤ op.toNat ∨ (op = 0x27#8 ∧ c.daaMode = .unsupported)) ∧
    ((∃ row, decodeOpcode c op = .ok row) ↔ ¬ ∃ e, decodeOpcode c op = .error e)

/-- 30_encoding.md R70 (D2): an instruction is one opcode byte and 0, 1 or 2 bytes more, and its length depends on the opcode
byte alone, and for 0x10 on `STOP_LENGTH`. -/
def Obligations.LengthIsDecidedByTheOpcodeByte : Prop :=
  (∀ (c : Config) (bs : List Byte) (i : Instr) (rest : List Byte), decode c bs = .ok (i, rest) →
    ∃ op operands, bs = op :: (operands ++ rest) ∧ operands.length ≤ 2) ∧
  (∀ (c c' : Config) (op : Byte) (more more' : List Byte) (i i' : Instr) (rest rest' : List Byte),
    decode c (op :: more) = .ok (i, rest) → decode c' (op :: more') = .ok (i', rest') →
    (op = 0x10#8 → c.stopLength = c'.stopLength) →
    more.length - rest.length = more'.length - rest'.length)

/-- 30_encoding.md R84 (D3): 166 opcodes are admitted when DAA is implemented and 165 otherwise: 62 (61) with x = 0, 64
with x = 1, 40 with x = 2, none with x = 3. -/
def Obligations.AdmittedSetHas166Opcodes : Prop :=
  ∀ c : Config,
    let admitted (low high : Nat) :=
      ((List.range 256).filter fun k =>
        decide (low ≤ k) && decide (k < high) && (decodeOpcode c (opcodeByte k)).isOk).length
    admitted 0 64 = (match c.daaMode with | .implemented => 62 | .unsupported => 61) ∧
    admitted 64 128 = 64 ∧ admitted 128 192 = 40 ∧ admitted 192 256 = 0

/-- Twelve words written out from the encoding column of opcode_table.json decode to the instruction they stand for (D2). -/
def Obligations.SampleWordsDecodeAsTheTableSays : Prop :=
  decode .standard [0b00001110#8, 0x5A#8] = .ok (.ld_C_n 0x5A#8, []) ∧
  decode .standard [0b00110001#8, 0xFE#8, 0xFF#8] = .ok (.ld_SP_nn 0xFFFE#16, []) ∧
  decode .standard [0b01010111#8] = .ok (.ld_D_A, []) ∧
  decode .standard [0b01110100#8] = .ok (.ld_mHL_H, []) ∧
  decode .standard [0b00111010#8] = .ok (.ldd_A_mHL, []) ∧
  decode .standard [0b00110101#8] = .ok (.dec_mHL, []) ∧
  decode .standard [0b00101001#8] = .ok (.add_HL_HL, []) ∧
  decode .standard [0b10011110#8] = .ok (.sbc_A_mHL, []) ∧
  decode .standard [0b00011111#8] = .ok (.rra, []) ∧
  decode .standard [0b00110000#8, 0xFE#8] = .ok (.jr_NC_d 0xFE#8, []) ∧
  decode .standard [0b00010000#8, 0xA5#8] = .ok (.stop, []) ∧
  decode .standard [0b01110110#8] = .ok (.halt, [])

/-- 30_encoding.md R88 (marked general knowledge there, D28; the base is D6): the displacement an assembler writes for the
target of a JR at `opcodeAddress`, where there is one, makes the jump go to the target; there is
none when the target is out of reach. -/
def Obligations.AssembledDisplacementReachesTheTarget : Prop :=
  ∀ (opcodeAddress target : Word) (s : State), s.pc = opcodeAddress + 2 →
    (∀ d, displacementTo opcodeAddress target = some d → ∃ t, exec (.jr_d d) s = .next t ∧ t.pc = target) ∧
    (displacementTo opcodeAddress target = none ↔
      (target.toNat : Int) - (opcodeAddress.toNat + 2) < -128 ∨
      (target.toNat : Int) - (opcodeAddress.toNat + 2) > 127)

/-! ## The step -/

/-- 30_encoding.md R90, R91, over the flat RAM: when the bytes from `pc` up (mod 65536) decode to `i`, leaving `rest`, a
step is `i` run in the state where its bytes were fetched and `pc` is at the next-instruction address. -/
def Obligations.StepRunsTheDecodedInstruction : Prop :=
  ∀ (s : State) (i : Instr) (rest : List Byte), s.st = .normal → s.cfg.bus = .flatRam →
    decode s.cfg [s.mem.read s.pc, s.mem.read (s.pc + 1), s.mem.read (s.pc + 2)] = .ok (i, rest) →
    step s = exec i (afterFetch s (3 - rest.length))

/-- 30_encoding.md R90, R92 (D33), over any bus: the opcode is read first, then the immediate bytes the row needs, each
answer that of the bus after the calls before it; then the instruction runs. -/
def Obligations.StepFetchesInOrderOverAnyBus : Prop :=
  ∀ (s : State) (row : Row) (i : Instr) (rest : List Byte), s.st = .normal →
    decodeOpcode s.cfg (s.busByte s.pc) = .ok row →
    row.take [(s.call (.readByte s.pc)).busByte (s.pc + 1),
      ((s.call (.readByte s.pc)).call (.readByte (s.pc + 1))).busByte (s.pc + 2)] = .ok (i, rest) →
    step s = exec i (afterFetch s row.length)

/-- 60_exceptions.md R201, R202 and 30_encoding.md R92 (D5): on an opcode that is not admitted, a step makes the one
opcode read, enters ERROR, and changes nothing else: `pc`, every register and flag, memory and `cyc` are as they were. -/
def Obligations.DecodeFailureOnlyEntersError : Prop :=
  ∀ (s : State) (e : DecodeError), s.st = .normal → decodeOpcode s.cfg (s.busByte s.pc) = .error e →
    ∃ t, step s = .next t ∧ t.st = .error ∧ OnlyChanges s t [.st] ∧ Ran s t 0 [.readByte s.pc] ∧ t.mem = s.mem

/-- 60_exceptions.md R211 (D17): a `Step` request in HALTED, TERMINATED or ERROR makes no bus call and changes nothing. -/
def Obligations.StepRequestInATerminalStateChangesNothing : Prop :=
  ∀ s : State, s.st.terminal = true → step s = .next s

/-- 60_exceptions.md R212 and 10_state.md R34 (D29): in EXPECTING_CBP there is no step: the model stops with the fault of
that name (entry 9). -/
def Obligations.ExpectingCbpHasNoStepToTake : Prop :=
  ∀ s : State, s.st = .expectingCbp → step s = .fault .expectingCbpHasNoStep

/-- 60_exceptions.md R210, the whole transition table: `Step` in NORMAL by what it fetches (D5 for the decode failure),
`SignalError` (R203, D18), `Reset` (D10), and no `Step` elsewhere; `Load` is no event of the table and leaves `st` as it is
(D35). "No step" is written for HALTED, TERMINATED and ERROR as "a step can only answer the same state" (R211, D17; the
model's choice, entry 8), and for EXPECTING_CBP as "a step answers no next state" (R212, D29; the model's choice, entry 9). -/
def Obligations.ProcessorStateTransitionTable : Prop :=
  (∀ (s s' : State) (i : Instr), s.st = .normal → fetch s = .decoded i s' →
    ∃ t, step s = .next t ∧
      (i = .halt → t.st = .halted) ∧ (i = .stop → t.st = .terminated) ∧
      (i ≠ .halt → i ≠ .stop → t.st = .normal)) ∧
  (∀ s s' : State, s.st = .normal → fetch s = .failed s' → ∃ t, step s = .next t ∧ t.st = .error) ∧
  (∀ s : State, s.st = .normal → s.signalError.st = .error) ∧
  (∀ s : State, s.st ≠ .normal → s.signalError = s) ∧
  (∀ s : State, s.st.terminal = true → ∀ t, step s = .next t → t = s) ∧
  (∀ s : State, s.st = .expectingCbp → ∀ t, step s ≠ .next t) ∧
  (∀ (s : State) (rv : ResetValues), (s.hostReset rv).st = .normal) ∧
  (∀ (s : State) (k : LoadTarget), (s.load k).st = s.st)

/-- 60_exceptions.md R208: nothing but `Reset` takes the processor out of HALTED, TERMINATED or ERROR, and `Reset` does. That
`SignalError` leaves `st` as it is there is R203 (D18), that `Load` does R47 (D35), and that a `Step` request changes nothing
R211 (D17); that such a request answers a next state is the model's choice (entry 8). -/
def Obligations.OnlyResetLeavesATerminalState : Prop :=
  ∀ (k : HostAction) (s : State), s.st.terminal = true →
    ∃ t, act k s = .next t ∧ t.st = match k with | .reset _ => RunState.normal | _ => s.st

/-- The invariant every step keeps, from every state that has it: the memory list is canonical and within the 65536
addresses of 20_memory.md R51, and EXPECTING_CBP is never entered (10_state.md R34, 60_exceptions.md R212, D29). -/
def Obligations.EveryStepKeepsTheInvariant : Prop :=
  ∀ s : State, s.Inv → ∃ t, step s = .next t ∧ t.Inv

/-- The invariant holds after reset. -/
def Obligations.ResetStateHasTheInvariant : Prop := State.reset.Inv

/-- Every action of the control port (10_state.md R46) can be taken where the invariant holds, and keeps it. -/
def Obligations.EveryHostActionKeepsTheInvariant : Prop :=
  ∀ (k : HostAction) (s : State), s.Inv → ∃ t, act k s = .next t ∧ t.Inv

/-! ## Rules over all instructions -/

/-- 70_reset_and_hazards.md R240, R241 (D7, D8): every instruction charges the cost the table gives its form, the two
outcomes of a conditional jump and both values of `JR_CC_CYCLES` included. -/
def Obligations.EveryInstructionChargesItsTableCost : Prop :=
  ∀ (i : Instr) (s : State),
    ∃ t, exec i s = .next t ∧ t.cyc = s.cyc + Form.cost s.cfg (Form.taken s i.form) i.form

/-- 70_reset_and_hazards.md R242 (D7 to D9): over any number of steps the cycle counter grows by exactly the sum of the
costs of the instructions executed, decode failures and requests in a terminal state adding nothing. -/
def Obligations.RunChargesTheSumOfTheCosts : Prop :=
  ∀ (k : Nat) (s t : State), Sys2Proof.core.run k s = .next t → t.cyc = s.cyc + runCost k s

/-- The frame of every instruction (10_state.md R21, R25, R26, R30; 20_memory.md R56): it completes, and every register,
every flag, `pc`, `sp`, `st` and every byte of memory that the tables do not list for its form is as it was. -/
def Obligations.EveryInstructionChangesOnlyItsOwnParts : Prop :=
  ∀ (i : Instr) (s : State), ∃ t, exec i s = .next t ∧ OnlyChanges s t (Form.writes s i.form)

/-- 10_state.md R21 (marked derived there): an instruction depends on no register the table does not list as read: with
another value in such a register it does the same, and the register keeps that value unless the instruction writes it. -/
def Obligations.RegistersNotReadDoNotMatter : Prop :=
  ∀ (i : Instr) (s : State) (r : Reg8) (v : Byte), r ∉ Form.regsRead i.form →
    ∃ t, exec i s = .next t ∧
      exec i (s.setReg r v) = .next (if r ∈ Form.regsWritten i.form then t else t.setReg r v)

/-- 10_state.md R30, column "reads" (marked derived there): an instruction depends on no flag the table does not list as
read for it. -/
def Obligations.FlagsNotReadDoNotMatter : Prop :=
  ∀ (i : Instr) (s : State) (k : FlagName) (v : Bool), k ∉ Form.flagsRead i.form →
    ∃ t, exec i s = .next t ∧
      exec i (s.setFlags (s.f.set k v)) =
        .next (if k ∈ Form.flagsWritten i.form then t else t.setFlags (t.f.set k v))

/-- 20_memory.md R56, R59 (D21, D33): the data calls of every instruction, each once, a read before the write. -/
def Obligations.EveryInstructionMakesExactlyItsDataCalls : Prop :=
  ∀ (i : Instr) (s : State),
    ∃ t, exec i s = .next t ∧ t.busLog = (Form.dataCalls s i.form).reverse ++ s.busLog

/-- 20_memory.md R62, R64 (D34), over the flat RAM: what an instruction stores is what every later read of that byte, a
fetch included, is answered, and every other byte is answered as before; an instruction that stores nothing leaves every
byte as it was. -/
def Obligations.StoredByteIsWhatTheNextReadSees : Prop :=
  ∀ (i : Instr) (s : State), s.mem.wf = true → s.cfg.bus = .flatRam →
    ∃ t, exec i s = .next t ∧
      match Form.store s i.form with
      | some (address, v) => t.busByte address = v ∧ ∀ b, b ≠ address → t.busByte b = s.busByte b
      | none => ∀ b, t.busByte b = s.busByte b

/-! ## Loads -/

/-- 40_loads.md R100 (D2 for the opcode). -/
def Obligations.LoadImmediateIntoARegister : Prop :=
  ∀ (r : Reg8) (n : Byte) (s : State),
    encode s.cfg (.ldImm r n) = [opcodeByte (0b00000110 + 8 * regCode r), n] ∧
    ∃ t, exec (.ldImm r n) s = .next t ∧ t.reg r = n ∧ OnlyChanges s t [.reg r] ∧ Ran s t 2 []

/-- 40_loads.md R101 (D3, D8). -/
def Obligations.LoadImmediateIntoTheByteAtHL : Prop :=
  ∀ (n : Byte) (s : State), s.mem.wf = true →
    encode s.cfg (.ld_mHL_n n) = [0x36#8, n] ∧
    ∃ t, exec (.ld_mHL_n n) s = .next t ∧ Stored s t (s.pair .hl) n ∧
      OnlyChanges s t [.byte (s.pair .hl)] ∧ Ran s t 3 [.writeByte n (s.pair .hl)]

/-- 40_loads.md R102 (D3 for LD SP,nn): the high register takes bits 15-8 and the low register bits 7-0; SP, which has no
registers behind it, is written whole. -/
def Obligations.LoadImmediateIntoAPairOrSP : Prop :=
  (∀ (p : RegPair) (nn : Word) (s : State),
    encode s.cfg (.ldImm16 (.pair p) nn) =
      [opcodeByte (0b00000001 + 16 * reg16Code (.pair p)), opcodeByte (nn.toNat % 256), opcodeByte (nn.toNat / 256)] ∧
    ∃ t, exec (.ldImm16 (.pair p) nn) s = .next t ∧
      (t.reg (pairHigh p)).toNat = nn.toNat / 256 ∧ (t.reg (pairLow p)).toNat = nn.toNat % 256 ∧ t.pair p = nn ∧
      OnlyChanges s t [.reg (pairHigh p), .reg (pairLow p)] ∧ Ran s t 3 []) ∧
  (∀ (nn : Word) (s : State),
    encode s.cfg (.ld_SP_nn nn) = [0x31#8, opcodeByte (nn.toNat % 256), opcodeByte (nn.toNat / 256)] ∧
    ∃ t, exec (.ld_SP_nn nn) s = .next t ∧ t.sp = nn ∧ OnlyChanges s t [.sp] ∧ Ran s t 3 [])

/-- 40_loads.md R103 (D8 for the cost); r = r' included (30_encoding.md R87): then nothing but `cyc` changes. -/
def Obligations.CopyRegisterToRegister : Prop :=
  ∀ (r r' : Reg8) (s : State),
    encode s.cfg (.ldReg r r') = [opcodeByte (0b01000000 + 8 * regCode r + regCode r')] ∧
    ∃ t, exec (.ldReg r r') s = .next t ∧ t.reg r = s.reg r' ∧ OnlyChanges s t [.reg r] ∧ Ran s t 1 [] ∧
      (r = r' → OnlyChanges s t [])

/-- 40_loads.md R104 (D2 for the opcode): the address is HL before the register is written. -/
def Obligations.LoadRegisterFromTheByteAtHL : Prop :=
  ∀ (r : Reg8) (s : State),
    encode s.cfg (.ldFromHL r) = [opcodeByte (0b01000110 + 8 * regCode r)] ∧
    ∃ t, exec (.ldFromHL r) s = .next t ∧ t.reg r = s.busByte (s.pair .hl) ∧ OnlyChanges s t [.reg r] ∧
      Ran s t 2 [.readByte (s.pair .hl)]

/-- 40_loads.md R105 (D2 for the opcode). -/
def Obligations.StoreRegisterToTheByteAtHL : Prop :=
  ∀ (r : Reg8) (s : State), s.mem.wf = true →
    encode s.cfg (.ldToHL r) = [opcodeByte (0b01110000 + regCode r)] ∧
    ∃ t, exec (.ldToHL r) s = .next t ∧ Stored s t (s.pair .hl) (s.reg r) ∧
      OnlyChanges s t [.byte (s.pair .hl)] ∧ Ran s t 2 [.writeByte (s.reg r) (s.pair .hl)]

/-- 40_loads.md R106, R107 (D3): A is loaded from, and stored to, the byte at BC or DE. -/
def Obligations.LoadAndStoreAThroughBCAndDE : Prop :=
  ∀ s : State, s.mem.wf = true →
    (∀ q ∈ [(Instr.ld_A_mBC, RegPair.bc, 0x0A#8), (Instr.ld_A_mDE, RegPair.de, 0x1A#8)],
      encode s.cfg q.1 = [q.2.2] ∧
      ∃ t, exec q.1 s = .next t ∧ t.a = s.busByte (s.pair q.2.1) ∧ OnlyChanges s t [.reg .a] ∧
        Ran s t 2 [.readByte (s.pair q.2.1)]) ∧
    (∀ q ∈ [(Instr.ld_mBC_A, RegPair.bc, 0x02#8), (Instr.ld_mDE_A, RegPair.de, 0x12#8)],
      encode s.cfg q.1 = [q.2.2] ∧
      ∃ t, exec q.1 s = .next t ∧ Stored s t (s.pair q.2.1) s.a ∧ OnlyChanges s t [.byte (s.pair q.2.1)] ∧
        Ran s t 2 [.writeByte s.a (s.pair q.2.1)])

/-- 40_loads.md R108, R110 (D8 for the cost): A is stored at HL, then HL goes up or down by one, mod 65536. -/
def Obligations.StoreAAndStepHL : Prop :=
  ∀ s : State, s.mem.wf = true →
    ∀ q ∈ [(Instr.ldi_mHL_A, (1 : Int), 0x22#8), (Instr.ldd_mHL_A, (-1 : Int), 0x32#8)],
      encode s.cfg q.1 = [q.2.2] ∧
      ∃ t, exec q.1 s = .next t ∧ Stored s t (s.pair .hl) s.a ∧
        ((t.pair .hl).toNat : Int) = ((s.pair .hl).toNat + q.2.1) % 65536 ∧
        OnlyChanges s t [.byte (s.pair .hl), .reg .h, .reg .l] ∧ Ran s t 2 [.writeByte s.a (s.pair .hl)]

/-- 40_loads.md R109, R111 (D8 for the cost): A is loaded from HL, then HL goes up or down by one, mod 65536. -/
def Obligations.LoadAAndStepHL : Prop :=
  ∀ s : State,
    ∀ q ∈ [(Instr.ldi_A_mHL, (1 : Int), 0x2A#8), (Instr.ldd_A_mHL, (-1 : Int), 0x3A#8)],
      encode s.cfg q.1 = [q.2.2] ∧
      ∃ t, exec q.1 s = .next t ∧ t.a = s.busByte (s.pair .hl) ∧
        ((t.pair .hl).toNat : Int) = ((s.pair .hl).toNat + q.2.1) % 65536 ∧
        OnlyChanges s t [.reg .a, .reg .h, .reg .l] ∧ Ran s t 2 [.readByte (s.pair .hl)]

/-! ## Increment and decrement -/

/-- 41_inc_dec.md R120 (D8 for the cost). -/
def Obligations.IncrementARegister : Prop :=
  ∀ (r : Reg8) (s : State),
    encode s.cfg (.inc8 r) = [opcodeByte (0b00000100 + 8 * regCode r)] ∧
    ∃ t, exec (.inc8 r) s = .next t ∧ (t.reg r).toNat = ((s.reg r).toNat + 1) % 256 ∧
      t.f.z = decide (t.reg r = 0) ∧ t.f.n = false ∧ t.f.h = decide ((s.reg r).toNat % 16 = 15) ∧
      OnlyChanges s t [.reg r, .flag .z, .flag .n, .flag .h] ∧ Ran s t 1 []

/-- 41_inc_dec.md R121 (D8 for the cost). -/
def Obligations.DecrementARegister : Prop :=
  ∀ (r : Reg8) (s : State),
    encode s.cfg (.dec8 r) = [opcodeByte (0b00000101 + 8 * regCode r)] ∧
    ∃ t, exec (.dec8 r) s = .next t ∧ ((t.reg r).toNat : Int) = ((s.reg r).toNat - 1) % 256 ∧
      t.f.z = decide (t.reg r = 0) ∧ t.f.n = true ∧ t.f.h = decide ((s.reg r).toNat % 16 = 0) ∧
      OnlyChanges s t [.reg r, .flag .z, .flag .n, .flag .h] ∧ Ran s t 1 []

/-- 41_inc_dec.md R122, R123 (D3, D8): the byte at HL is read, then written with one more or one less. -/
def Obligations.IncrementAndDecrementTheByteAtHL : Prop :=
  ∀ s : State, s.mem.wf = true →
    let old := s.busByte (s.pair .hl)
    let up := opcodeByte (old.toNat + 1)
    let down := opcodeByte (old.toNat + 255)
    (encode s.cfg .inc_mHL = [0x34#8] ∧
      ∃ t, exec .inc_mHL s = .next t ∧ Stored s t (s.pair .hl) up ∧
        t.f.z = decide (up = 0) ∧ t.f.n = false ∧ t.f.h = decide (old.toNat % 16 = 15) ∧
        OnlyChanges s t [.byte (s.pair .hl), .flag .z, .flag .n, .flag .h] ∧
        Ran s t 3 [.readByte (s.pair .hl), .writeByte up (s.pair .hl)]) ∧
    (encode s.cfg .dec_mHL = [0x35#8] ∧
      ∃ t, exec .dec_mHL s = .next t ∧ Stored s t (s.pair .hl) down ∧
        t.f.z = decide (down = 0) ∧ t.f.n = true ∧ t.f.h = decide (old.toNat % 16 = 0) ∧
        OnlyChanges s t [.byte (s.pair .hl), .flag .z, .flag .n, .flag .h] ∧
        Ran s t 3 [.readByte (s.pair .hl), .writeByte down (s.pair .hl)])

/-- 41_inc_dec.md R124, R125 (D8 for the cost): a pair or SP goes up or down by one, mod 65536, and no flag changes. -/
def Obligations.IncrementAndDecrementAPairOrSP : Prop :=
  ∀ (rr : Reg16) (s : State),
    let parts := match rr with
      | .pair p => [Part.reg (pairHigh p), Part.reg (pairLow p)]
      | .sp => [Part.sp]
    (encode s.cfg (.inc16 rr) = [opcodeByte (0b00000011 + 16 * reg16Code rr)] ∧
      ∃ t, exec (.inc16 rr) s = .next t ∧ (t.reg16 rr).toNat = ((s.reg16 rr).toNat + 1) % 65536 ∧
        OnlyChanges s t parts ∧ Ran s t 2 []) ∧
    (encode s.cfg (.dec16 rr) = [opcodeByte (0b00001011 + 16 * reg16Code rr)] ∧
      ∃ t, exec (.dec16 rr) s = .next t ∧ ((t.reg16 rr).toNat : Int) = ((s.reg16 rr).toNat - 1) % 65536 ∧
        OnlyChanges s t parts ∧ Ran s t 2 [])

/-- 41_inc_dec.md R126: INC then DEC, and DEC then INC, of the same register restore it, from every value; the flags left
are those of the second instruction. -/
def Obligations.IncThenDecRestoresTheRegister : Prop :=
  ∀ (r : Reg8) (s : State),
    (∃ t u, exec (.inc8 r) s = .next t ∧ exec (.dec8 r) t = .next u ∧ u.reg r = s.reg r ∧
      u.f.n = true ∧ u.f.z = decide (s.reg r = 0) ∧ u.f.h = decide ((t.reg r).toNat % 16 = 0)) ∧
    (∃ t u, exec (.dec8 r) s = .next t ∧ exec (.inc8 r) t = .next u ∧ u.reg r = s.reg r ∧
      u.f.n = false ∧ u.f.z = decide (s.reg r = 0) ∧ u.f.h = decide ((t.reg r).toNat % 16 = 15))

/-! ## Arithmetic and logic -/

/-- 42_arith.md R131 (D8, D11): H is the carry out of bit 11, C the carry out of bit 15, Z is unaffected. -/
def Obligations.AddAPairOrSPIntoHL : Prop :=
  ∀ (rr : Reg16) (s : State),
    let a := (s.pair .hl).toNat
    let b := (s.reg16 rr).toNat
    encode s.cfg (.addHL rr) = [opcodeByte (0b00001001 + 16 * reg16Code rr)] ∧
    ∃ t, exec (.addHL rr) s = .next t ∧ (t.pair .hl).toNat = (a + b) % 65536 ∧
      t.f.n = false ∧ t.f.h = decide (a % 4096 + b % 4096 > 0x0FFF) ∧ t.f.c = decide (a + b > 0xFFFF) ∧
      OnlyChanges s t [.reg .h, .reg .l, .flag .n, .flag .h, .flag .c] ∧ Ran s t 2 []

/-- 42_arith.md R130, R132, R133 (D8, D12): ADD and ADC, for every operand form; ADC adds the carry, exactly 0 or 1. -/
def Obligations.AddAndAddWithCarry : Prop :=
  ∀ (x : Operand) (s : State),
    let a := s.a.toNat
    let v := (operandValue s x).toNat
    let cost := match x with | .reg _ => 1 | .atHL => 2
    ∀ q ∈ [(Instr.aluAdd x, 0, 0b10000000), (Instr.aluAdc x, s.f.c.toNat, 0b10001000)],
      let carry : Nat := q.2.1
      encode s.cfg q.1 = [opcodeByte (q.2.2 + operandCode x)] ∧
      ∃ t, exec q.1 s = .next t ∧ t.a.toNat = (a + v + carry) % 256 ∧
        t.f.z = decide (t.a = 0) ∧ t.f.n = false ∧ t.f.h = decide (a % 16 + v % 16 + carry > 15) ∧
        t.f.c = decide (a + v + carry > 255) ∧
        OnlyChanges s t [.reg .a, .flag .z, .flag .n, .flag .h, .flag .c] ∧ Ran s t cost (operandCalls s x)

/-- 42_arith.md R130, R134, R135 (D8, D12): SUB and SBC, for every operand form; SBC subtracts the carry, exactly 0 or 1. -/
def Obligations.SubtractAndSubtractWithCarry : Prop :=
  ∀ (x : Operand) (s : State),
    let a := s.a.toNat
    let v := (operandValue s x).toNat
    let cost := match x with | .reg _ => 1 | .atHL => 2
    ∀ q ∈ [(Instr.aluSub x, 0, 0b10010000), (Instr.aluSbc x, s.f.c.toNat, 0b10011000)],
      let borrow : Nat := q.2.1
      encode s.cfg q.1 = [opcodeByte (q.2.2 + operandCode x)] ∧
      ∃ t, exec q.1 s = .next t ∧ (t.a.toNat : Int) = ((a : Int) - v - borrow) % 256 ∧
        t.f.z = decide (t.a = 0) ∧ t.f.n = true ∧ t.f.h = decide (a % 16 < v % 16 + borrow) ∧
        t.f.c = decide (a < v + borrow) ∧
        OnlyChanges s t [.reg .a, .flag .z, .flag .n, .flag .h, .flag .c] ∧ Ran s t cost (operandCalls s x)

/-- 42_arith.md R130, R136 (D8, D24): the AND is bitwise; Z is computed, H set, N and C cleared. -/
def Obligations.BitwiseAndIntoA : Prop :=
  ∀ (x : Operand) (s : State),
    let cost := match x with | .reg _ => 1 | .atHL => 2
    encode s.cfg (.aluAnd x) = [opcodeByte (0b10100000 + operandCode x)] ∧
    ∃ t, exec (.aluAnd x) s = .next t ∧
      (∀ k, t.a.getLsbD k = (s.a.getLsbD k && (operandValue s x).getLsbD k)) ∧
      t.f.z = decide (t.a = 0) ∧ t.f.n = false ∧ t.f.h = true ∧ t.f.c = false ∧
      OnlyChanges s t [.reg .a, .flag .z, .flag .n, .flag .h, .flag .c] ∧ Ran s t cost (operandCalls s x)

/-- 42_arith.md R137 (D15, D8): DAA follows the rule's two branches, each correction in turn, on every input. -/
def Obligations.DecimalAdjustFollowsItsTwoBranches : Prop :=
  ∀ s : State,
    encode s.cfg .daa = [0x27#8] ∧
    ∃ t, exec .daa s = .next t ∧
      (s.f.n = false →
        let high : Bool := s.f.c || decide (s.a.toNat > 0x99)
        let first := if high then s.a.toNat + 0x60 else s.a.toNat
        let second := if s.f.h || decide (first % 16 > 9) then first + 0x06 else first
        t.a.toNat = second % 256 ∧ t.f.c = high) ∧
      (s.f.n = true →
        let first : Int := if s.f.c then (s.a.toNat : Int) - 0x60 else s.a.toNat
        let second : Int := if s.f.h then first - 0x06 else first
        (t.a.toNat : Int) = second % 256 ∧ t.f.c = s.f.c) ∧
      t.f.z = decide (t.a = 0) ∧ t.f.h = false ∧
      OnlyChanges s t [.reg .a, .flag .z, .flag .h, .flag .c] ∧ Ran s t 1 []

/-- What DAA is for (42_arith.md R137, "decimal-adjust A after a BCD addition or subtraction"; derived from R132 to R135 and
R137): on two-digit decimal operands, ADD or ADC then DAA gives the decimal sum, and SUB or SBC then DAA the decimal
difference, mod 100, with the carry flag the decimal carry or borrow. -/
def Obligations.DecimalAdjustCorrectsBcdArithmetic : Prop :=
  ∀ (r : Reg8) (s : State), isBcd s.a = true → isBcd (s.reg r) = true →
    (∀ q ∈ [(Instr.aluAdd (.reg r), 0), (Instr.aluAdc (.reg r), s.f.c.toNat)],
      let sum := bcdValue s.a + bcdValue (s.reg r) + q.2
      ∃ t u, exec q.1 s = .next t ∧ exec .daa t = .next u ∧
        isBcd u.a = true ∧ bcdValue u.a = sum % 100 ∧ u.f.c = decide (sum > 99)) ∧
    (∀ q ∈ [(Instr.aluSub (.reg r), 0), (Instr.aluSbc (.reg r), s.f.c.toNat)],
      let difference : Int := (bcdValue s.a : Int) - bcdValue (s.reg r) - (q.2 : Nat)
      ∃ t u, exec q.1 s = .next t ∧ exec .daa t = .next u ∧
        isBcd u.a = true ∧ (bcdValue u.a : Int) = difference % 100 ∧ u.f.c = decide (difference < 0))

/-! ## Rotates -/

/-- 43_rotate.md R150, R151 (D2 for the opcodes): the bit rotated out goes to the other end and to the carry; Z is unaffected. -/
def Obligations.RotateAccumulatorCircular : Prop :=
  ∀ s : State,
    (encode s.cfg .rlca = [0x07#8] ∧
      ∃ t, exec .rlca s = .next t ∧ t.a.toNat = s.a.toNat % 128 * 2 + s.a.toNat / 128 ∧
        t.f.n = false ∧ t.f.h = false ∧ t.f.c = decide (s.a.toNat / 128 = 1) ∧
        OnlyChanges s t [.reg .a, .flag .n, .flag .h, .flag .c] ∧ Ran s t 1 []) ∧
    (encode s.cfg .rrca = [0x0F#8] ∧
      ∃ t, exec .rrca s = .next t ∧ t.a.toNat = s.a.toNat % 2 * 128 + s.a.toNat / 2 ∧
        t.f.n = false ∧ t.f.h = false ∧ t.f.c = decide (s.a.toNat % 2 = 1) ∧
        OnlyChanges s t [.reg .a, .flag .n, .flag .h, .flag .c] ∧ Ran s t 1 [])

/-- 43_rotate.md R152, R153 (D13): the old carry comes in, the bit rotated out becomes the carry; Z is unaffected. -/
def Obligations.RotateAccumulatorThroughCarry : Prop :=
  ∀ s : State,
    (encode s.cfg .rla = [0x17#8] ∧
      ∃ t, exec .rla s = .next t ∧ t.a.toNat = s.a.toNat % 128 * 2 + s.f.c.toNat ∧
        t.f.n = false ∧ t.f.h = false ∧ t.f.c = decide (s.a.toNat / 128 = 1) ∧
        OnlyChanges s t [.reg .a, .flag .n, .flag .h, .flag .c] ∧ Ran s t 1 []) ∧
    (encode s.cfg .rra = [0x1F#8] ∧
      ∃ t, exec .rra s = .next t ∧ t.a.toNat = s.f.c.toNat * 128 + s.a.toNat / 2 ∧
        t.f.n = false ∧ t.f.h = false ∧ t.f.c = decide (s.a.toNat % 2 = 1) ∧
        OnlyChanges s t [.reg .a, .flag .n, .flag .h, .flag .c] ∧ Ran s t 1 [])

/-- 43_rotate.md R154: eight RLCA restore A and leave the carry equal to the start value's bit 0; eight RRCA restore A and
leave it equal to bit 7. -/
def Obligations.EightCircularRotatesRestoreA : Prop :=
  ∀ s : State,
    (∃ t, repeatExec .rlca 8 s = .next t ∧ t.a = s.a ∧ t.f.c = s.a.getLsbD 0) ∧
    (∃ t, repeatExec .rrca 8 s = .next t ∧ t.a = s.a ∧ t.f.c = s.a.getLsbD 7)

/-- 43_rotate.md R152, corner cases (D13): nine RLA restore both A and the carry; nine RRA, the mirror image, too. -/
def Obligations.NineRotatesThroughCarryRestoreAAndC : Prop :=
  ∀ s : State,
    (∃ t, repeatExec .rla 9 s = .next t ∧ t.a = s.a ∧ t.f.c = s.f.c) ∧
    (∃ t, repeatExec .rra 9 s = .next t ∧ t.a = s.a ∧ t.f.c = s.f.c)

/-! ## Jumps -/

/-- 44_jump.md R161 (D6, D7): the displacement is added to the next-instruction address, mod 65536. -/
def Obligations.JumpRelativeAddsTheDisplacement : Prop :=
  ∀ (d : Byte) (s : State),
    encode s.cfg (.jr_d d) = [0x18#8, d] ∧
    ∃ t, exec (.jr_d d) s = .next t ∧
      (t.pc.toNat : Int) = (s.pc.toNat + (if d.toNat < 128 then (d.toNat : Int) else d.toNat - 256)) % 65536 ∧
      OnlyChanges s t [.pc] ∧ Ran s t 3 []

/-- 44_jump.md R160, R162 (D6, D7): taken or not by the flag the condition names; the cost of a taken jump is that of
`JR_CC_CYCLES`. -/
def Obligations.ConditionalJumpFollowsItsFlag : Prop :=
  ∀ (cc : Cond) (d : Byte) (s : State),
    let condition : Bool := match cc with
      | .nz => !s.f.z
      | .z => s.f.z
      | .nc => !s.f.c
      | .c => s.f.c
    encode s.cfg (.jrIf cc d) = [opcodeByte (0b00100000 + 8 * condCode cc), d] ∧
    (condition = true → ∃ t, exec (.jrIf cc d) s = .next t ∧
      (t.pc.toNat : Int) = (s.pc.toNat + (if d.toNat < 128 then (d.toNat : Int) else d.toNat - 256)) % 65536 ∧
      OnlyChanges s t [.pc] ∧
      Ran s t (match s.cfg.jrCcCycles with | .canonical => 3 | .historical => 2) []) ∧
    (condition = false → ∃ t, exec (.jrIf cc d) s = .next t ∧ OnlyChanges s t [] ∧ Ran s t 2 [])

/-! ## Control and flag-only instructions -/

/-- 45_control.md R170, R171 (D8 for the cost, D14 for N and H after CCF). -/
def Obligations.SetAndComplementCarry : Prop :=
  ∀ s : State,
    (encode s.cfg .scf = [0x37#8] ∧
      ∃ t, exec .scf s = .next t ∧ t.f.n = false ∧ t.f.h = false ∧ t.f.c = true ∧
        OnlyChanges s t [.flag .n, .flag .h, .flag .c] ∧ Ran s t 1 []) ∧
    (encode s.cfg .ccf = [0x3F#8] ∧
      ∃ t, exec .ccf s = .next t ∧ t.f.n = false ∧ t.f.h = false ∧ t.f.c = !s.f.c ∧
        OnlyChanges s t [.flag .n, .flag .h, .flag .c] ∧ Ran s t 1 [])

/-- 45_control.md R172 (D2 for the opcode): NOP has no effect but the clock. -/
def Obligations.NopOnlyAdvancesTheClock : Prop :=
  ∀ s : State, encode s.cfg .nop = [0x00#8] ∧
    ∃ t, exec .nop s = .next t ∧ OnlyChanges s t [] ∧ Ran s t 1 [] ∧ t.mem = s.mem

/-- 45_control.md R173, R174 (D8, D16, D17): STOP enters TERMINATED and HALT enters HALTED; nothing else but the clock
changes; STOP is one or two bytes long by `STOP_LENGTH`, whatever its second byte. -/
def Obligations.StopAndHaltEnterTheirStates : Prop :=
  ∀ s : State,
    ((∀ x : Byte, decode s.cfg [0x10#8, x] =
        .ok (.stop, match s.cfg.stopLength with | .one => [x] | .two => [])) ∧
      ∃ t, exec .stop s = .next t ∧ t.st = .terminated ∧ OnlyChanges s t [.st] ∧ Ran s t 1 []) ∧
    (encode s.cfg .halt = [0x76#8] ∧
      ∃ t, exec .halt s = .next t ∧ t.st = .halted ∧ OnlyChanges s t [.st] ∧ Ran s t 1 [])

/-! ## State, memory and the host's ports -/

/-- 10_state.md R22, R23: BC, DE and HL are views of (B, C), (D, E) and (H, L); a pair written reads back, its high
register holds `V >> 8` and its low register `V & 0xFF`, and writing either register changes the pair. -/
def Obligations.PairsAreViewsOfTheirRegisters : Prop :=
  ∀ s : State,
    ((s.pair .bc).toNat = s.b.toNat * 256 + s.c.toNat ∧ (s.pair .de).toNat = s.d.toNat * 256 + s.e.toNat ∧
      (s.pair .hl).toNat = s.h.toNat * 256 + s.l.toNat) ∧
    (∀ v : Word, (s.setPair .bc v).b.toNat = v.toNat / 256 ∧ (s.setPair .bc v).c.toNat = v.toNat % 256 ∧
      (s.setPair .de v).d.toNat = v.toNat / 256 ∧ (s.setPair .de v).e.toNat = v.toNat % 256 ∧
      (s.setPair .hl v).h.toNat = v.toNat / 256 ∧ (s.setPair .hl v).l.toNat = v.toNat % 256) ∧
    (∀ (p : RegPair) (v : Word), (s.setPair p v).pair p = v ∧
      ∀ r, r ≠ pairHigh p → r ≠ pairLow p → (s.setPair p v).reg r = s.reg r) ∧
    (∀ (p : RegPair) (v : Byte),
      ((s.setReg (pairHigh p) v).pair p).toNat = v.toNat * 256 + (s.pair p).toNat % 256 ∧
      ((s.setReg (pairLow p) v).pair p).toNat = (s.pair p).toNat / 256 * 256 + v.toNat)

/-- 20_memory.md R54, over the flat RAM: a word written reads back, its low byte at the address and its high byte at the
address after, for every address, 0xFFFF included (there the address after is 0x0000: R53, D20); every other byte is
answered as before (R53, R60, R62; D34). -/
def Obligations.WordWrittenReadsBackLittleEndian : Prop :=
  ∀ (s : State) (v a : Word), s.mem.wf = true → s.cfg.bus = .flatRam →
    let t := s.writeWord a v
    (t.readWord a).1 = v ∧ (t.readByte a).1.toNat = v.toNat % 256 ∧ (t.readByte (a + 1)).1.toNat = v.toNat / 256 ∧
    ∀ b, b ≠ a → b ≠ a + 1 → (t.readByte b).1 = (s.readByte b).1

/-- 70_reset_and_hazards.md R230, R231 (D9, D10): `Reset` gives every register, `pc` and `sp` the caller's value, clears
the flags and `cyc`, enters NORMAL, from any state, and makes no bus call and does not touch memory. -/
def Obligations.ResetSetsEveryPieceOfState : Prop :=
  ∀ (rv : ResetValues) (s : State), ∃ t, act (.reset rv) s = .next t ∧
    t.a = rv.a ∧ t.b = rv.b ∧ t.c = rv.c ∧ t.d = rv.d ∧ t.e = rv.e ∧ t.h = rv.h ∧ t.l = rv.l ∧
    t.pc = rv.pc ∧ t.sp = rv.sp ∧
    t.f.z = false ∧ t.f.n = false ∧ t.f.h = false ∧ t.f.c = false ∧ t.cyc = 0 ∧ t.st = .normal ∧
    t.mem = s.mem ∧ t.busLog = s.busLog ∧ t.cfg = s.cfg

/-- 10_state.md R37, with the defaults of 00_scope.md R7 (D9, D10): the state right after reset. -/
def Obligations.DefaultResetStateIsAllZero : Prop :=
  (∀ r, State.reset.reg r = 0) ∧ State.reset.pc = 0 ∧ State.reset.sp = 0 ∧ (∀ k, State.reset.f.get k = false) ∧
  State.reset.cyc = 0 ∧ State.reset.st = .normal ∧ State.reset.cfg.jrCcCycles = .canonical ∧
  State.reset.cfg.stopLength = .two ∧ State.reset.cfg.daaMode = .implemented ∧ State.reset.cfg.bus = .flatRam

/-- 10_state.md R47 (D35), with R22 and R29: `Load` writes the one register, pair, `pc`, `sp` or flag named, and nothing
else: never `cyc`, `st` or memory, and no other flag. -/
def Obligations.LoadWritesOneThing : Prop :=
  ∀ (k : LoadTarget) (s : State), ∃ t, act (.load k) s = .next t ∧ Ran s t 0 [] ∧ t.mem = s.mem ∧
    match k with
    | .reg r v => t.reg r = v ∧ OnlyChanges s t [.reg r]
    | .pair p v => t.pair p = v ∧ OnlyChanges s t [.reg (pairHigh p), .reg (pairLow p)]
    | .pc v => t.pc = v ∧ OnlyChanges s t [.pc]
    | .sp v => t.sp = v ∧ OnlyChanges s t [.sp]
    | .flag f v => t.f.get f = v ∧ OnlyChanges s t [.flag f]

/-- 60_exceptions.md R203 (D18): `SignalError` moves NORMAL to ERROR and changes nothing else; in any other state it has
no effect. -/
def Obligations.SignalErrorOnlyMovesNormalToError : Prop :=
  ∀ s : State, ∃ t, act .signalError s = .next t ∧
    (s.st = .normal → t.st = .error ∧ OnlyChanges s t [.st] ∧ Ran s t 0 [] ∧ t.mem = s.mem) ∧
    (s.st ≠ .normal → t = s)

/-- 10_state.md R45, R27 (D23), R33 (D22): the observation port shows every register, pair and flag, `pc`, `sp`, `cyc`, the
packed flags with Z lowest, and the code of the processor state. -/
def Obligations.ObservationPortShowsTheState : Prop :=
  ∀ s : State,
    let o := observe s
    (o.a = s.reg .a ∧ o.b = s.reg .b ∧ o.c = s.reg .c ∧ o.d = s.reg .d ∧ o.e = s.reg .e ∧ o.h = s.reg .h ∧
      o.l = s.reg .l) ∧
    (o.bc = s.pair .bc ∧ o.de = s.pair .de ∧ o.hl = s.pair .hl ∧ o.pc = s.pc ∧ o.sp = s.sp ∧ o.cyc = s.cyc) ∧
    (o.z = s.f.z ∧ o.n = s.f.n ∧ o.hf = s.f.h ∧ o.cf = s.f.c) ∧
    o.packedFlags.toNat = s.f.z.toNat + 2 * s.f.n.toNat + 4 * s.f.h.toNat + 8 * s.f.c.toNat ∧
    o.stCode = match s.st with
      | .normal => 0
      | .halted => 1
      | .terminated => 2
      | .error => 3
      | .expectingCbp => 4
end

