-- ==== Sys2Proof/Laws/PerInstr.lean ====
section
/-! SUPPORT. The per-instruction family `OpcodeRow`: the bytes the encoder writes for an instruction are those of the row
the decoder has for its opcode byte (30_encoding.md R71, R83). -/

namespace Sys2Proof.Laws.OpcodeRow

/-- The encoder's first byte has a row, that row takes back the instruction from the bytes that follow, whatever comes
after them, and it is as long as the encoding. -/
def Statement (i : Instr) : Prop :=
  ∀ c : Config, i.wf c = true →
    ∃ op operands row, encode c i = op :: operands ∧ decodeOpcode c op = .ok row ∧
      row.length = operands.length + 1 ∧ ∀ rest, row.take (operands ++ rest) = .ok (i, rest)

/-- The two halves of a 16-bit immediate make it up again (30_encoding.md R75). -/
theorem imm16_low_high (nn : Word) : imm16 (immLow nn) (immHigh nn) = nn := by
  apply BitVec.eq_of_toNat_eq
  have h := Nat.shiftLeft_add_eq_or_of_lt (immLow nn).isLt (immHigh nn).toNat
  simp only [Nat.shiftLeft_eq] at h
  have hl : (immLow nn).toNat = nn.toNat % 256 := by simp [immLow]
  have hh : (immHigh nn).toNat = nn.toNat / 256 := by simp [immHigh, Nat.shiftRight_eq_div_pow]; omega
  simp only [imm16, BitVec.toNat_append, Nat.shiftLeft_eq]
  omega

theorem nop : Statement .nop := fun _ _ => ⟨0x00#8, [], .f0 .nop, rfl, rfl, rfl, fun _ => rfl⟩
theorem ld_BC_nn (nn : Word) : Statement (.ld_BC_nn nn) := fun _ _ =>
  ⟨0x01#8, [immLow nn, immHigh nn], .f2 .ld_BC_nn, rfl, rfl, rfl, fun rest => by simp [Row.take, imm16_low_high]⟩
theorem ld_mBC_A : Statement .ld_mBC_A := fun _ _ => ⟨0x02#8, [], .f0 .ld_mBC_A, rfl, rfl, rfl, fun _ => rfl⟩
theorem inc_BC : Statement .inc_BC := fun _ _ => ⟨0x03#8, [], .f0 .inc_BC, rfl, rfl, rfl, fun _ => rfl⟩
theorem inc_B : Statement .inc_B := fun _ _ => ⟨0x04#8, [], .f0 .inc_B, rfl, rfl, rfl, fun _ => rfl⟩
theorem dec_B : Statement .dec_B := fun _ _ => ⟨0x05#8, [], .f0 .dec_B, rfl, rfl, rfl, fun _ => rfl⟩
theorem ld_B_n (n : Byte) : Statement (.ld_B_n n) := fun _ _ => ⟨0x06#8, [n], .f1n .ld_B_n, rfl, rfl, rfl, fun _ => rfl⟩
theorem rlca : Statement .rlca := fun _ _ => ⟨0x07#8, [], .f0 .rlca, rfl, rfl, rfl, fun _ => rfl⟩
theorem add_HL_BC : Statement .add_HL_BC := fun _ _ => ⟨0x09#8, [], .f0 .add_HL_BC, rfl, rfl, rfl, fun _ => rfl⟩
theorem ld_A_mBC : Statement .ld_A_mBC := fun _ _ => ⟨0x0A#8, [], .f0 .ld_A_mBC, rfl, rfl, rfl, fun _ => rfl⟩
theorem dec_BC : Statement .dec_BC := fun _ _ => ⟨0x0B#8, [], .f0 .dec_BC, rfl, rfl, rfl, fun _ => rfl⟩
theorem inc_C : Statement .inc_C := fun _ _ => ⟨0x0C#8, [], .f0 .inc_C, rfl, rfl, rfl, fun _ => rfl⟩
theorem dec_C : Statement .dec_C := fun _ _ => ⟨0x0D#8, [], .f0 .dec_C, rfl, rfl, rfl, fun _ => rfl⟩
theorem ld_C_n (n : Byte) : Statement (.ld_C_n n) := fun _ _ => ⟨0x0E#8, [n], .f1n .ld_C_n, rfl, rfl, rfl, fun _ => rfl⟩
theorem rrca : Statement .rrca := fun _ _ => ⟨0x0F#8, [], .f0 .rrca, rfl, rfl, rfl, fun _ => rfl⟩
theorem stop : Statement .stop := by
  intro c _
  cases hc : c.stopLength with
  | one => exact ⟨0x10#8, [], .f0 .stop, by simp [encode, hc], by simp [decodeOpcode, opcodeMap, OpcodeMap.line1, stopRow, hc], rfl, fun _ => rfl⟩
  | two => exact ⟨0x10#8, [0x00#8], .f1s .stop, by simp [encode, hc], by simp [decodeOpcode, opcodeMap, OpcodeMap.line1, stopRow, hc], rfl, fun _ => rfl⟩
theorem ld_DE_nn (nn : Word) : Statement (.ld_DE_nn nn) := fun _ _ =>
  ⟨0x11#8, [immLow nn, immHigh nn], .f2 .ld_DE_nn, rfl, rfl, rfl, fun rest => by simp [Row.take, imm16_low_high]⟩
theorem ld_mDE_A : Statement .ld_mDE_A := fun _ _ => ⟨0x12#8, [], .f0 .ld_mDE_A, rfl, rfl, rfl, fun _ => rfl⟩
theorem inc_DE : Statement .inc_DE := fun _ _ => ⟨0x13#8, [], .f0 .inc_DE, rfl, rfl, rfl, fun _ => rfl⟩
theorem inc_D : Statement .inc_D := fun _ _ => ⟨0x14#8, [], .f0 .inc_D, rfl, rfl, rfl, fun _ => rfl⟩
theorem dec_D : Statement .dec_D := fun _ _ => ⟨0x15#8, [], .f0 .dec_D, rfl, rfl, rfl, fun _ => rfl⟩
theorem ld_D_n (n : Byte) : Statement (.ld_D_n n) := fun _ _ => ⟨0x16#8, [n], .f1n .ld_D_n, rfl, rfl, rfl, fun _ => rfl⟩
theorem rla : Statement .rla := fun _ _ => ⟨0x17#8, [], .f0 .rla, rfl, rfl, rfl, fun _ => rfl⟩
theorem jr_d (d : Byte) : Statement (.jr_d d) := fun _ _ => ⟨0x18#8, [d], .f1d .jr_d, rfl, rfl, rfl, fun _ => rfl⟩
theorem add_HL_DE : Statement .add_HL_DE := fun _ _ => ⟨0x19#8, [], .f0 .add_HL_DE, rfl, rfl, rfl, fun _ => rfl⟩
theorem ld_A_mDE : Statement .ld_A_mDE := fun _ _ => ⟨0x1A#8, [], .f0 .ld_A_mDE, rfl, rfl, rfl, fun _ => rfl⟩
theorem dec_DE : Statement .dec_DE := fun _ _ => ⟨0x1B#8, [], .f0 .dec_DE, rfl, rfl, rfl, fun _ => rfl⟩
theorem inc_E : Statement .inc_E := fun _ _ => ⟨0x1C#8, [], .f0 .inc_E, rfl, rfl, rfl, fun _ => rfl⟩
theorem dec_E : Statement .dec_E := fun _ _ => ⟨0x1D#8, [], .f0 .dec_E, rfl, rfl, rfl, fun _ => rfl⟩
theorem ld_E_n (n : Byte) : Statement (.ld_E_n n) := fun _ _ => ⟨0x1E#8, [n], .f1n .ld_E_n, rfl, rfl, rfl, fun _ => rfl⟩
theorem rra : Statement .rra := fun _ _ => ⟨0x1F#8, [], .f0 .rra, rfl, rfl, rfl, fun _ => rfl⟩
theorem jr_NZ_d (d : Byte) : Statement (.jr_NZ_d d) := fun _ _ => ⟨0x20#8, [d], .f1d .jr_NZ_d, rfl, rfl, rfl, fun _ => rfl⟩
theorem ld_HL_nn (nn : Word) : Statement (.ld_HL_nn nn) := fun _ _ =>
  ⟨0x21#8, [immLow nn, immHigh nn], .f2 .ld_HL_nn, rfl, rfl, rfl, fun rest => by simp [Row.take, imm16_low_high]⟩
theorem ldi_mHL_A : Statement .ldi_mHL_A := fun _ _ => ⟨0x22#8, [], .f0 .ldi_mHL_A, rfl, rfl, rfl, fun _ => rfl⟩
theorem inc_HL : Statement .inc_HL := fun _ _ => ⟨0x23#8, [], .f0 .inc_HL, rfl, rfl, rfl, fun _ => rfl⟩
theorem inc_H : Statement .inc_H := fun _ _ => ⟨0x24#8, [], .f0 .inc_H, rfl, rfl, rfl, fun _ => rfl⟩
theorem dec_H : Statement .dec_H := fun _ _ => ⟨0x25#8, [], .f0 .dec_H, rfl, rfl, rfl, fun _ => rfl⟩
theorem ld_H_n (n : Byte) : Statement (.ld_H_n n) := fun _ _ => ⟨0x26#8, [n], .f1n .ld_H_n, rfl, rfl, rfl, fun _ => rfl⟩
theorem daa : Statement .daa := by
  intro c h
  have hc : c.daaMode = .implemented := by simpa [Instr.wf] using h
  exact ⟨0x27#8, [], .f0 .daa, rfl, by simp [decodeOpcode, hc]; rfl, rfl, fun _ => rfl⟩
theorem jr_Z_d (d : Byte) : Statement (.jr_Z_d d) := fun _ _ => ⟨0x28#8, [d], .f1d .jr_Z_d, rfl, rfl, rfl, fun _ => rfl⟩
theorem add_HL_HL : Statement .add_HL_HL := fun _ _ => ⟨0x29#8, [], .f0 .add_HL_HL, rfl, rfl, rfl, fun _ => rfl⟩
theorem ldi_A_mHL : Statement .ldi_A_mHL := fun _ _ => ⟨0x2A#8, [], .f0 .ldi_A_mHL, rfl, rfl, rfl, fun _ => rfl⟩
theorem dec_HL : Statement .dec_HL := fun _ _ => ⟨0x2B#8, [], .f0 .dec_HL, rfl, rfl, rfl, fun _ => rfl⟩
theorem inc_L : Statement .inc_L := fun _ _ => ⟨0x2C#8, [], .f0 .inc_L, rfl, rfl, rfl, fun _ => rfl⟩
theorem dec_L : Statement .dec_L := fun _ _ => ⟨0x2D#8, [], .f0 .dec_L, rfl, rfl, rfl, fun _ => rfl⟩
theorem ld_L_n (n : Byte) : Statement (.ld_L_n n) := fun _ _ => ⟨0x2E#8, [n], .f1n .ld_L_n, rfl, rfl, rfl, fun _ => rfl⟩
theorem jr_NC_d (d : Byte) : Statement (.jr_NC_d d) := fun _ _ => ⟨0x30#8, [d], .f1d .jr_NC_d, rfl, rfl, rfl, fun _ => rfl⟩
theorem ld_SP_nn (nn : Word) : Statement (.ld_SP_nn nn) := fun _ _ =>
  ⟨0x31#8, [immLow nn, immHigh nn], .f2 .ld_SP_nn, rfl, rfl, rfl, fun rest => by simp [Row.take, imm16_low_high]⟩
theorem ldd_mHL_A : Statement .ldd_mHL_A := fun _ _ => ⟨0x32#8, [], .f0 .ldd_mHL_A, rfl, rfl, rfl, fun _ => rfl⟩
theorem inc_SP : Statement .inc_SP := fun _ _ => ⟨0x33#8, [], .f0 .inc_SP, rfl, rfl, rfl, fun _ => rfl⟩
theorem inc_mHL : Statement .inc_mHL := fun _ _ => ⟨0x34#8, [], .f0 .inc_mHL, rfl, rfl, rfl, fun _ => rfl⟩
theorem dec_mHL : Statement .dec_mHL := fun _ _ => ⟨0x35#8, [], .f0 .dec_mHL, rfl, rfl, rfl, fun _ => rfl⟩
theorem ld_mHL_n (n : Byte) : Statement (.ld_mHL_n n) := fun _ _ => ⟨0x36#8, [n], .f1n .ld_mHL_n, rfl, rfl, rfl, fun _ => rfl⟩
theorem scf : Statement .scf := fun _ _ => ⟨0x37#8, [], .f0 .scf, rfl, rfl, rfl, fun _ => rfl⟩
theorem jr_C_d (d : Byte) : Statement (.jr_C_d d) := fun _ _ => ⟨0x38#8, [d], .f1d .jr_C_d, rfl, rfl, rfl, fun _ => rfl⟩
theorem add_HL_SP : Statement .add_HL_SP := fun _ _ => ⟨0x39#8, [], .f0 .add_HL_SP, rfl, rfl, rfl, fun _ => rfl⟩
theorem ldd_A_mHL : Statement .ldd_A_mHL := fun _ _ => ⟨0x3A#8, [], .f0 .ldd_A_mHL, rfl, rfl, rfl, fun _ => rfl⟩
theorem dec_SP : Statement .dec_SP := fun _ _ => ⟨0x3B#8, [], .f0 .dec_SP, rfl, rfl, rfl, fun _ => rfl⟩
theorem inc_A : Statement .inc_A := fun _ _ => ⟨0x3C#8, [], .f0 .inc_A, rfl, rfl, rfl, fun _ => rfl⟩
theorem dec_A : Statement .dec_A := fun _ _ => ⟨0x3D#8, [], .f0 .dec_A, rfl, rfl, rfl, fun _ => rfl⟩
theorem ld_A_n (n : Byte) : Statement (.ld_A_n n) := fun _ _ => ⟨0x3E#8, [n], .f1n .ld_A_n, rfl, rfl, rfl, fun _ => rfl⟩
theorem ccf : Statement .ccf := fun _ _ => ⟨0x3F#8, [], .f0 .ccf, rfl, rfl, rfl, fun _ => rfl⟩
theorem ld_B_B : Statement .ld_B_B := fun _ _ => ⟨0x40#8, [], .f0 .ld_B_B, rfl, rfl, rfl, fun _ => rfl⟩
theorem ld_B_C : Statement .ld_B_C := fun _ _ => ⟨0x41#8, [], .f0 .ld_B_C, rfl, rfl, rfl, fun _ => rfl⟩
theorem ld_B_D : Statement .ld_B_D := fun _ _ => ⟨0x42#8, [], .f0 .ld_B_D, rfl, rfl, rfl, fun _ => rfl⟩
theorem ld_B_E : Statement .ld_B_E := fun _ _ => ⟨0x43#8, [], .f0 .ld_B_E, rfl, rfl, rfl, fun _ => rfl⟩
theorem ld_B_H : Statement .ld_B_H := fun _ _ => ⟨0x44#8, [], .f0 .ld_B_H, rfl, rfl, rfl, fun _ => rfl⟩
theorem ld_B_L : Statement .ld_B_L := fun _ _ => ⟨0x45#8, [], .f0 .ld_B_L, rfl, rfl, rfl, fun _ => rfl⟩
theorem ld_B_mHL : Statement .ld_B_mHL := fun _ _ => ⟨0x46#8, [], .f0 .ld_B_mHL, rfl, rfl, rfl, fun _ => rfl⟩
theorem ld_B_A : Statement .ld_B_A := fun _ _ => ⟨0x47#8, [], .f0 .ld_B_A, rfl, rfl, rfl, fun _ => rfl⟩
theorem ld_C_B : Statement .ld_C_B := fun _ _ => ⟨0x48#8, [], .f0 .ld_C_B, rfl, rfl, rfl, fun _ => rfl⟩
theorem ld_C_C : Statement .ld_C_C := fun _ _ => ⟨0x49#8, [], .f0 .ld_C_C, rfl, rfl, rfl, fun _ => rfl⟩
theorem ld_C_D : Statement .ld_C_D := fun _ _ => ⟨0x4A#8, [], .f0 .ld_C_D, rfl, rfl, rfl, fun _ => rfl⟩
theorem ld_C_E : Statement .ld_C_E := fun _ _ => ⟨0x4B#8, [], .f0 .ld_C_E, rfl, rfl, rfl, fun _ => rfl⟩
theorem ld_C_H : Statement .ld_C_H := fun _ _ => ⟨0x4C#8, [], .f0 .ld_C_H, rfl, rfl, rfl, fun _ => rfl⟩
theorem ld_C_L : Statement .ld_C_L := fun _ _ => ⟨0x4D#8, [], .f0 .ld_C_L, rfl, rfl, rfl, fun _ => rfl⟩
theorem ld_C_mHL : Statement .ld_C_mHL := fun _ _ => ⟨0x4E#8, [], .f0 .ld_C_mHL, rfl, rfl, rfl, fun _ => rfl⟩
theorem ld_C_A : Statement .ld_C_A := fun _ _ => ⟨0x4F#8, [], .f0 .ld_C_A, rfl, rfl, rfl, fun _ => rfl⟩
theorem ld_D_B : Statement .ld_D_B := fun _ _ => ⟨0x50#8, [], .f0 .ld_D_B, rfl, rfl, rfl, fun _ => rfl⟩
theorem ld_D_C : Statement .ld_D_C := fun _ _ => ⟨0x51#8, [], .f0 .ld_D_C, rfl, rfl, rfl, fun _ => rfl⟩
theorem ld_D_D : Statement .ld_D_D := fun _ _ => ⟨0x52#8, [], .f0 .ld_D_D, rfl, rfl, rfl, fun _ => rfl⟩
theorem ld_D_E : Statement .ld_D_E := fun _ _ => ⟨0x53#8, [], .f0 .ld_D_E, rfl, rfl, rfl, fun _ => rfl⟩
theorem ld_D_H : Statement .ld_D_H := fun _ _ => ⟨0x54#8, [], .f0 .ld_D_H, rfl, rfl, rfl, fun _ => rfl⟩
theorem ld_D_L : Statement .ld_D_L := fun _ _ => ⟨0x55#8, [], .f0 .ld_D_L, rfl, rfl, rfl, fun _ => rfl⟩
theorem ld_D_mHL : Statement .ld_D_mHL := fun _ _ => ⟨0x56#8, [], .f0 .ld_D_mHL, rfl, rfl, rfl, fun _ => rfl⟩
theorem ld_D_A : Statement .ld_D_A := fun _ _ => ⟨0x57#8, [], .f0 .ld_D_A, rfl, rfl, rfl, fun _ => rfl⟩
theorem ld_E_B : Statement .ld_E_B := fun _ _ => ⟨0x58#8, [], .f0 .ld_E_B, rfl, rfl, rfl, fun _ => rfl⟩
theorem ld_E_C : Statement .ld_E_C := fun _ _ => ⟨0x59#8, [], .f0 .ld_E_C, rfl, rfl, rfl, fun _ => rfl⟩
theorem ld_E_D : Statement .ld_E_D := fun _ _ => ⟨0x5A#8, [], .f0 .ld_E_D, rfl, rfl, rfl, fun _ => rfl⟩
theorem ld_E_E : Statement .ld_E_E := fun _ _ => ⟨0x5B#8, [], .f0 .ld_E_E, rfl, rfl, rfl, fun _ => rfl⟩
theorem ld_E_H : Statement .ld_E_H := fun _ _ => ⟨0x5C#8, [], .f0 .ld_E_H, rfl, rfl, rfl, fun _ => rfl⟩
theorem ld_E_L : Statement .ld_E_L := fun _ _ => ⟨0x5D#8, [], .f0 .ld_E_L, rfl, rfl, rfl, fun _ => rfl⟩
theorem ld_E_mHL : Statement .ld_E_mHL := fun _ _ => ⟨0x5E#8, [], .f0 .ld_E_mHL, rfl, rfl, rfl, fun _ => rfl⟩
theorem ld_E_A : Statement .ld_E_A := fun _ _ => ⟨0x5F#8, [], .f0 .ld_E_A, rfl, rfl, rfl, fun _ => rfl⟩
theorem ld_H_B : Statement .ld_H_B := fun _ _ => ⟨0x60#8, [], .f0 .ld_H_B, rfl, rfl, rfl, fun _ => rfl⟩
theorem ld_H_C : Statement .ld_H_C := fun _ _ => ⟨0x61#8, [], .f0 .ld_H_C, rfl, rfl, rfl, fun _ => rfl⟩
theorem ld_H_D : Statement .ld_H_D := fun _ _ => ⟨0x62#8, [], .f0 .ld_H_D, rfl, rfl, rfl, fun _ => rfl⟩
theorem ld_H_E : Statement .ld_H_E := fun _ _ => ⟨0x63#8, [], .f0 .ld_H_E, rfl, rfl, rfl, fun _ => rfl⟩
theorem ld_H_H : Statement .ld_H_H := fun _ _ => ⟨0x64#8, [], .f0 .ld_H_H, rfl, rfl, rfl, fun _ => rfl⟩
theorem ld_H_L : Statement .ld_H_L := fun _ _ => ⟨0x65#8, [], .f0 .ld_H_L, rfl, rfl, rfl, fun _ => rfl⟩
theorem ld_H_mHL : Statement .ld_H_mHL := fun _ _ => ⟨0x66#8, [], .f0 .ld_H_mHL, rfl, rfl, rfl, fun _ => rfl⟩
theorem ld_H_A : Statement .ld_H_A := fun _ _ => ⟨0x67#8, [], .f0 .ld_H_A, rfl, rfl, rfl, fun _ => rfl⟩
theorem ld_L_B : Statement .ld_L_B := fun _ _ => ⟨0x68#8, [], .f0 .ld_L_B, rfl, rfl, rfl, fun _ => rfl⟩
theorem ld_L_C : Statement .ld_L_C := fun _ _ => ⟨0x69#8, [], .f0 .ld_L_C, rfl, rfl, rfl, fun _ => rfl⟩
theorem ld_L_D : Statement .ld_L_D := fun _ _ => ⟨0x6A#8, [], .f0 .ld_L_D, rfl, rfl, rfl, fun _ => rfl⟩
theorem ld_L_E : Statement .ld_L_E := fun _ _ => ⟨0x6B#8, [], .f0 .ld_L_E, rfl, rfl, rfl, fun _ => rfl⟩
theorem ld_L_H : Statement .ld_L_H := fun _ _ => ⟨0x6C#8, [], .f0 .ld_L_H, rfl, rfl, rfl, fun _ => rfl⟩
theorem ld_L_L : Statement .ld_L_L := fun _ _ => ⟨0x6D#8, [], .f0 .ld_L_L, rfl, rfl, rfl, fun _ => rfl⟩
theorem ld_L_mHL : Statement .ld_L_mHL := fun _ _ => ⟨0x6E#8, [], .f0 .ld_L_mHL, rfl, rfl, rfl, fun _ => rfl⟩
theorem ld_L_A : Statement .ld_L_A := fun _ _ => ⟨0x6F#8, [], .f0 .ld_L_A, rfl, rfl, rfl, fun _ => rfl⟩
theorem ld_mHL_B : Statement .ld_mHL_B := fun _ _ => ⟨0x70#8, [], .f0 .ld_mHL_B, rfl, rfl, rfl, fun _ => rfl⟩
theorem ld_mHL_C : Statement .ld_mHL_C := fun _ _ => ⟨0x71#8, [], .f0 .ld_mHL_C, rfl, rfl, rfl, fun _ => rfl⟩
theorem ld_mHL_D : Statement .ld_mHL_D := fun _ _ => ⟨0x72#8, [], .f0 .ld_mHL_D, rfl, rfl, rfl, fun _ => rfl⟩
theorem ld_mHL_E : Statement .ld_mHL_E := fun _ _ => ⟨0x73#8, [], .f0 .ld_mHL_E, rfl, rfl, rfl, fun _ => rfl⟩
theorem ld_mHL_H : Statement .ld_mHL_H := fun _ _ => ⟨0x74#8, [], .f0 .ld_mHL_H, rfl, rfl, rfl, fun _ => rfl⟩
theorem ld_mHL_L : Statement .ld_mHL_L := fun _ _ => ⟨0x75#8, [], .f0 .ld_mHL_L, rfl, rfl, rfl, fun _ => rfl⟩
theorem halt : Statement .halt := fun _ _ => ⟨0x76#8, [], .f0 .halt, rfl, rfl, rfl, fun _ => rfl⟩
theorem ld_mHL_A : Statement .ld_mHL_A := fun _ _ => ⟨0x77#8, [], .f0 .ld_mHL_A, rfl, rfl, rfl, fun _ => rfl⟩
theorem ld_A_B : Statement .ld_A_B := fun _ _ => ⟨0x78#8, [], .f0 .ld_A_B, rfl, rfl, rfl, fun _ => rfl⟩
theorem ld_A_C : Statement .ld_A_C := fun _ _ => ⟨0x79#8, [], .f0 .ld_A_C, rfl, rfl, rfl, fun _ => rfl⟩
theorem ld_A_D : Statement .ld_A_D := fun _ _ => ⟨0x7A#8, [], .f0 .ld_A_D, rfl, rfl, rfl, fun _ => rfl⟩
theorem ld_A_E : Statement .ld_A_E := fun _ _ => ⟨0x7B#8, [], .f0 .ld_A_E, rfl, rfl, rfl, fun _ => rfl⟩
theorem ld_A_H : Statement .ld_A_H := fun _ _ => ⟨0x7C#8, [], .f0 .ld_A_H, rfl, rfl, rfl, fun _ => rfl⟩
theorem ld_A_L : Statement .ld_A_L := fun _ _ => ⟨0x7D#8, [], .f0 .ld_A_L, rfl, rfl, rfl, fun _ => rfl⟩
theorem ld_A_mHL : Statement .ld_A_mHL := fun _ _ => ⟨0x7E#8, [], .f0 .ld_A_mHL, rfl, rfl, rfl, fun _ => rfl⟩
theorem ld_A_A : Statement .ld_A_A := fun _ _ => ⟨0x7F#8, [], .f0 .ld_A_A, rfl, rfl, rfl, fun _ => rfl⟩
theorem add_A_B : Statement .add_A_B := fun _ _ => ⟨0x80#8, [], .f0 .add_A_B, rfl, rfl, rfl, fun _ => rfl⟩
theorem add_A_C : Statement .add_A_C := fun _ _ => ⟨0x81#8, [], .f0 .add_A_C, rfl, rfl, rfl, fun _ => rfl⟩
theorem add_A_D : Statement .add_A_D := fun _ _ => ⟨0x82#8, [], .f0 .add_A_D, rfl, rfl, rfl, fun _ => rfl⟩
theorem add_A_E : Statement .add_A_E := fun _ _ => ⟨0x83#8, [], .f0 .add_A_E, rfl, rfl, rfl, fun _ => rfl⟩
theorem add_A_H : Statement .add_A_H := fun _ _ => ⟨0x84#8, [], .f0 .add_A_H, rfl, rfl, rfl, fun _ => rfl⟩
theorem add_A_L : Statement .add_A_L := fun _ _ => ⟨0x85#8, [], .f0 .add_A_L, rfl, rfl, rfl, fun _ => rfl⟩
theorem add_A_mHL : Statement .add_A_mHL := fun _ _ => ⟨0x86#8, [], .f0 .add_A_mHL, rfl, rfl, rfl, fun _ => rfl⟩
theorem add_A_A : Statement .add_A_A := fun _ _ => ⟨0x87#8, [], .f0 .add_A_A, rfl, rfl, rfl, fun _ => rfl⟩
theorem adc_A_B : Statement .adc_A_B := fun _ _ => ⟨0x88#8, [], .f0 .adc_A_B, rfl, rfl, rfl, fun _ => rfl⟩
theorem adc_A_C : Statement .adc_A_C := fun _ _ => ⟨0x89#8, [], .f0 .adc_A_C, rfl, rfl, rfl, fun _ => rfl⟩
theorem adc_A_D : Statement .adc_A_D := fun _ _ => ⟨0x8A#8, [], .f0 .adc_A_D, rfl, rfl, rfl, fun _ => rfl⟩
theorem adc_A_E : Statement .adc_A_E := fun _ _ => ⟨0x8B#8, [], .f0 .adc_A_E, rfl, rfl, rfl, fun _ => rfl⟩
theorem adc_A_H : Statement .adc_A_H := fun _ _ => ⟨0x8C#8, [], .f0 .adc_A_H, rfl, rfl, rfl, fun _ => rfl⟩
theorem adc_A_L : Statement .adc_A_L := fun _ _ => ⟨0x8D#8, [], .f0 .adc_A_L, rfl, rfl, rfl, fun _ => rfl⟩
theorem adc_A_mHL : Statement .adc_A_mHL := fun _ _ => ⟨0x8E#8, [], .f0 .adc_A_mHL, rfl, rfl, rfl, fun _ => rfl⟩
theorem adc_A_A : Statement .adc_A_A := fun _ _ => ⟨0x8F#8, [], .f0 .adc_A_A, rfl, rfl, rfl, fun _ => rfl⟩
theorem sub_B : Statement .sub_B := fun _ _ => ⟨0x90#8, [], .f0 .sub_B, rfl, rfl, rfl, fun _ => rfl⟩
theorem sub_C : Statement .sub_C := fun _ _ => ⟨0x91#8, [], .f0 .sub_C, rfl, rfl, rfl, fun _ => rfl⟩
theorem sub_D : Statement .sub_D := fun _ _ => ⟨0x92#8, [], .f0 .sub_D, rfl, rfl, rfl, fun _ => rfl⟩
theorem sub_E : Statement .sub_E := fun _ _ => ⟨0x93#8, [], .f0 .sub_E, rfl, rfl, rfl, fun _ => rfl⟩
theorem sub_H : Statement .sub_H := fun _ _ => ⟨0x94#8, [], .f0 .sub_H, rfl, rfl, rfl, fun _ => rfl⟩
theorem sub_L : Statement .sub_L := fun _ _ => ⟨0x95#8, [], .f0 .sub_L, rfl, rfl, rfl, fun _ => rfl⟩
theorem sub_mHL : Statement .sub_mHL := fun _ _ => ⟨0x96#8, [], .f0 .sub_mHL, rfl, rfl, rfl, fun _ => rfl⟩
theorem sub_A : Statement .sub_A := fun _ _ => ⟨0x97#8, [], .f0 .sub_A, rfl, rfl, rfl, fun _ => rfl⟩
theorem sbc_A_B : Statement .sbc_A_B := fun _ _ => ⟨0x98#8, [], .f0 .sbc_A_B, rfl, rfl, rfl, fun _ => rfl⟩
theorem sbc_A_C : Statement .sbc_A_C := fun _ _ => ⟨0x99#8, [], .f0 .sbc_A_C, rfl, rfl, rfl, fun _ => rfl⟩
theorem sbc_A_D : Statement .sbc_A_D := fun _ _ => ⟨0x9A#8, [], .f0 .sbc_A_D, rfl, rfl, rfl, fun _ => rfl⟩
theorem sbc_A_E : Statement .sbc_A_E := fun _ _ => ⟨0x9B#8, [], .f0 .sbc_A_E, rfl, rfl, rfl, fun _ => rfl⟩
theorem sbc_A_H : Statement .sbc_A_H := fun _ _ => ⟨0x9C#8, [], .f0 .sbc_A_H, rfl, rfl, rfl, fun _ => rfl⟩
theorem sbc_A_L : Statement .sbc_A_L := fun _ _ => ⟨0x9D#8, [], .f0 .sbc_A_L, rfl, rfl, rfl, fun _ => rfl⟩
theorem sbc_A_mHL : Statement .sbc_A_mHL := fun _ _ => ⟨0x9E#8, [], .f0 .sbc_A_mHL, rfl, rfl, rfl, fun _ => rfl⟩
theorem sbc_A_A : Statement .sbc_A_A := fun _ _ => ⟨0x9F#8, [], .f0 .sbc_A_A, rfl, rfl, rfl, fun _ => rfl⟩
theorem and_B : Statement .and_B := fun _ _ => ⟨0xA0#8, [], .f0 .and_B, rfl, rfl, rfl, fun _ => rfl⟩
theorem and_C : Statement .and_C := fun _ _ => ⟨0xA1#8, [], .f0 .and_C, rfl, rfl, rfl, fun _ => rfl⟩
theorem and_D : Statement .and_D := fun _ _ => ⟨0xA2#8, [], .f0 .and_D, rfl, rfl, rfl, fun _ => rfl⟩
theorem and_E : Statement .and_E := fun _ _ => ⟨0xA3#8, [], .f0 .and_E, rfl, rfl, rfl, fun _ => rfl⟩
theorem and_H : Statement .and_H := fun _ _ => ⟨0xA4#8, [], .f0 .and_H, rfl, rfl, rfl, fun _ => rfl⟩
theorem and_L : Statement .and_L := fun _ _ => ⟨0xA5#8, [], .f0 .and_L, rfl, rfl, rfl, fun _ => rfl⟩
theorem and_mHL : Statement .and_mHL := fun _ _ => ⟨0xA6#8, [], .f0 .and_mHL, rfl, rfl, rfl, fun _ => rfl⟩
theorem and_A : Statement .and_A := fun _ _ => ⟨0xA7#8, [], .f0 .and_A, rfl, rfl, rfl, fun _ => rfl⟩

end Sys2Proof.Laws.OpcodeRow
end

