-- ==== Sys2Proof/Laws/Decode.lean ====
section
/-! SUPPORT. Decoding by the opcode byte and its row. -/

namespace Sys2Proof

/-- Decoding a list that begins with an opcode that has a row is taking the row's bytes. -/
theorem decode_cons_of_row (c : Config) (op : Byte) (rest : List Byte) (row : Row) (h : decodeOpcode c op = .ok row) :
    decode c (op :: rest) = row.take rest := by
  simp [decode, h]

/-- Decoding a list that begins with an opcode that has none is that opcode's error. -/
theorem decode_cons_of_error (c : Config) (op : Byte) (rest : List Byte) (e : DecodeError)
    (h : decodeOpcode c op = .error e) : decode c (op :: rest) = .error e := by
  simp [decode, h]

/-- Bytes that decode begin with an opcode that has a row, and the row takes the rest. -/
theorem decode_ok (c : Config) (bs : List Byte) (i : Instr) (rest : List Byte) (h : decode c bs = .ok (i, rest)) :
    ∃ op more row, bs = op :: more ∧ decodeOpcode c op = .ok row ∧ row.take more = .ok (i, rest) := by
  cases bs with
  | nil => simp [decode] at h
  | cons op more =>
    cases hd : decodeOpcode c op with
    | error e => simp [decode, hd] at h
    | ok row => exact ⟨op, more, row, rfl, hd, by simpa [decode, hd] using h⟩

/-- A row takes the bytes its length says and leaves the others. -/
theorem Row.take_length (row : Row) (bs : List Byte) (i : Instr) (rest : List Byte) (h : row.take bs = .ok (i, rest)) :
    bs.length + 1 = rest.length + row.length := by
  unfold Row.take at h
  split at h <;> simp_all [Row.length]

end Sys2Proof
end

