-- ==== Sys2Proof/Laws/Exec.lean ====
section
/-! SUPPORT. Which shared operation each row runs, by the rule's operands: the spec lemma of `exec` for each rule. -/

namespace Sys2Proof.Machine

theorem exec_ldImm (r : Reg8) (n : Byte) (s : State) : exec (.ldImm r n) s = .next (ldImm r n s) := by cases r <;> rfl
theorem exec_ld_mHL_n (n : Byte) (s : State) : exec (.ld_mHL_n n) s = .next (ldMemImm n s) := rfl
theorem exec_ldImm16 (rr : Reg16) (nn : Word) (s : State) : exec (.ldImm16 rr nn) s = .next (ldImm16 rr nn s) := by
  rcases rr with p | _
  · cases p <;> rfl
  · rfl
theorem exec_ldReg (r r' : Reg8) (s : State) : exec (.ldReg r r') s = .next (ldReg r r' s) := by
  cases r <;> cases r' <;> rfl
theorem exec_ldFromHL (r : Reg8) (s : State) : exec (.ldFromHL r) s = .next (loadReg r .hl s) := by cases r <;> rfl
theorem exec_ldToHL (r : Reg8) (s : State) : exec (.ldToHL r) s = .next (storeReg .hl r s) := by cases r <;> rfl
theorem exec_inc8 (r : Reg8) (s : State) : exec (.inc8 r) s = .next (inc8 r s) := by cases r <;> rfl
theorem exec_dec8 (r : Reg8) (s : State) : exec (.dec8 r) s = .next (dec8 r s) := by cases r <;> rfl
theorem exec_inc16 (rr : Reg16) (s : State) : exec (.inc16 rr) s = .next (inc16 rr s) := by
  rcases rr with p | _
  · cases p <;> rfl
  · rfl
theorem exec_dec16 (rr : Reg16) (s : State) : exec (.dec16 rr) s = .next (dec16 rr s) := by
  rcases rr with p | _
  · cases p <;> rfl
  · rfl
theorem exec_addHL (rr : Reg16) (s : State) : exec (.addHL rr) s = .next (addToHL rr s) := by
  rcases rr with p | _
  · cases p <;> rfl
  · rfl
theorem exec_aluAdd (x : Operand) (s : State) : exec (.aluAdd x) s = .next (addA x s) := by
  rcases x with r | _
  · cases r <;> rfl
  · rfl
theorem exec_aluAdc (x : Operand) (s : State) : exec (.aluAdc x) s = .next (adcA x s) := by
  rcases x with r | _
  · cases r <;> rfl
  · rfl
theorem exec_aluSub (x : Operand) (s : State) : exec (.aluSub x) s = .next (subA x s) := by
  rcases x with r | _
  · cases r <;> rfl
  · rfl
theorem exec_aluSbc (x : Operand) (s : State) : exec (.aluSbc x) s = .next (sbcA x s) := by
  rcases x with r | _
  · cases r <;> rfl
  · rfl
theorem exec_aluAnd (x : Operand) (s : State) : exec (.aluAnd x) s = .next (andA x s) := by
  rcases x with r | _
  · cases r <;> rfl
  · rfl
theorem exec_jrIf (cc : Cond) (d : Byte) (s : State) : exec (.jrIf cc d) s = .next (jumpIf cc d s) := by cases cc <;> rfl

end Sys2Proof.Machine
end

