-- ==== Sys2Proof/Laws/State.lean ====
section
/-! SUPPORT. What each operation on the state does to each field: one lemma per field per update, so that no later proof
unfolds a record update. -/

namespace Sys2Proof.Machine

/-! ## `setPc` -/

@[simp] theorem State.setPc_a (s : State) (v : Word) : (s.setPc v).a = s.a := rfl
@[simp] theorem State.setPc_b (s : State) (v : Word) : (s.setPc v).b = s.b := rfl
@[simp] theorem State.setPc_c (s : State) (v : Word) : (s.setPc v).c = s.c := rfl
@[simp] theorem State.setPc_d (s : State) (v : Word) : (s.setPc v).d = s.d := rfl
@[simp] theorem State.setPc_e (s : State) (v : Word) : (s.setPc v).e = s.e := rfl
@[simp] theorem State.setPc_h (s : State) (v : Word) : (s.setPc v).h = s.h := rfl
@[simp] theorem State.setPc_l (s : State) (v : Word) : (s.setPc v).l = s.l := rfl
@[simp] theorem State.setPc_pc (s : State) (v : Word) : (s.setPc v).pc = v := rfl
@[simp] theorem State.setPc_sp (s : State) (v : Word) : (s.setPc v).sp = s.sp := rfl
@[simp] theorem State.setPc_f (s : State) (v : Word) : (s.setPc v).f = s.f := rfl
@[simp] theorem State.setPc_cyc (s : State) (v : Word) : (s.setPc v).cyc = s.cyc := rfl
@[simp] theorem State.setPc_st (s : State) (v : Word) : (s.setPc v).st = s.st := rfl
@[simp] theorem State.setPc_mem (s : State) (v : Word) : (s.setPc v).mem = s.mem := rfl
@[simp] theorem State.setPc_busLog (s : State) (v : Word) : (s.setPc v).busLog = s.busLog := rfl
@[simp] theorem State.setPc_cfg (s : State) (v : Word) : (s.setPc v).cfg = s.cfg := rfl

/-! ## `setFlags` -/

@[simp] theorem State.setFlags_a (s : State) (v : Flags) : (s.setFlags v).a = s.a := rfl
@[simp] theorem State.setFlags_b (s : State) (v : Flags) : (s.setFlags v).b = s.b := rfl
@[simp] theorem State.setFlags_c (s : State) (v : Flags) : (s.setFlags v).c = s.c := rfl
@[simp] theorem State.setFlags_d (s : State) (v : Flags) : (s.setFlags v).d = s.d := rfl
@[simp] theorem State.setFlags_e (s : State) (v : Flags) : (s.setFlags v).e = s.e := rfl
@[simp] theorem State.setFlags_h (s : State) (v : Flags) : (s.setFlags v).h = s.h := rfl
@[simp] theorem State.setFlags_l (s : State) (v : Flags) : (s.setFlags v).l = s.l := rfl
@[simp] theorem State.setFlags_pc (s : State) (v : Flags) : (s.setFlags v).pc = s.pc := rfl
@[simp] theorem State.setFlags_sp (s : State) (v : Flags) : (s.setFlags v).sp = s.sp := rfl
@[simp] theorem State.setFlags_f (s : State) (v : Flags) : (s.setFlags v).f = v := rfl
@[simp] theorem State.setFlags_cyc (s : State) (v : Flags) : (s.setFlags v).cyc = s.cyc := rfl
@[simp] theorem State.setFlags_st (s : State) (v : Flags) : (s.setFlags v).st = s.st := rfl
@[simp] theorem State.setFlags_mem (s : State) (v : Flags) : (s.setFlags v).mem = s.mem := rfl
@[simp] theorem State.setFlags_busLog (s : State) (v : Flags) : (s.setFlags v).busLog = s.busLog := rfl
@[simp] theorem State.setFlags_cfg (s : State) (v : Flags) : (s.setFlags v).cfg = s.cfg := rfl

/-! ## `advance` -/

@[simp] theorem State.advance_a (s : State) (n : Nat) : (s.advance n).a = s.a := rfl
@[simp] theorem State.advance_b (s : State) (n : Nat) : (s.advance n).b = s.b := rfl
@[simp] theorem State.advance_c (s : State) (n : Nat) : (s.advance n).c = s.c := rfl
@[simp] theorem State.advance_d (s : State) (n : Nat) : (s.advance n).d = s.d := rfl
@[simp] theorem State.advance_e (s : State) (n : Nat) : (s.advance n).e = s.e := rfl
@[simp] theorem State.advance_h (s : State) (n : Nat) : (s.advance n).h = s.h := rfl
@[simp] theorem State.advance_l (s : State) (n : Nat) : (s.advance n).l = s.l := rfl
@[simp] theorem State.advance_pc (s : State) (n : Nat) : (s.advance n).pc = s.pc := rfl
@[simp] theorem State.advance_sp (s : State) (n : Nat) : (s.advance n).sp = s.sp := rfl
@[simp] theorem State.advance_f (s : State) (n : Nat) : (s.advance n).f = s.f := rfl
@[simp] theorem State.advance_cyc (s : State) (n : Nat) : (s.advance n).cyc = s.cyc + n := rfl
@[simp] theorem State.advance_st (s : State) (n : Nat) : (s.advance n).st = s.st := rfl
@[simp] theorem State.advance_mem (s : State) (n : Nat) : (s.advance n).mem = s.mem := rfl
@[simp] theorem State.advance_busLog (s : State) (n : Nat) : (s.advance n).busLog = s.busLog := rfl
@[simp] theorem State.advance_cfg (s : State) (n : Nat) : (s.advance n).cfg = s.cfg := rfl

/-! ## `enter` -/

@[simp] theorem State.enter_a (s : State) (v : RunState) : (s.enter v).a = s.a := rfl
@[simp] theorem State.enter_b (s : State) (v : RunState) : (s.enter v).b = s.b := rfl
@[simp] theorem State.enter_c (s : State) (v : RunState) : (s.enter v).c = s.c := rfl
@[simp] theorem State.enter_d (s : State) (v : RunState) : (s.enter v).d = s.d := rfl
@[simp] theorem State.enter_e (s : State) (v : RunState) : (s.enter v).e = s.e := rfl
@[simp] theorem State.enter_h (s : State) (v : RunState) : (s.enter v).h = s.h := rfl
@[simp] theorem State.enter_l (s : State) (v : RunState) : (s.enter v).l = s.l := rfl
@[simp] theorem State.enter_pc (s : State) (v : RunState) : (s.enter v).pc = s.pc := rfl
@[simp] theorem State.enter_sp (s : State) (v : RunState) : (s.enter v).sp = s.sp := rfl
@[simp] theorem State.enter_f (s : State) (v : RunState) : (s.enter v).f = s.f := rfl
@[simp] theorem State.enter_cyc (s : State) (v : RunState) : (s.enter v).cyc = s.cyc := rfl
@[simp] theorem State.enter_st (s : State) (v : RunState) : (s.enter v).st = v := rfl
@[simp] theorem State.enter_mem (s : State) (v : RunState) : (s.enter v).mem = s.mem := rfl
@[simp] theorem State.enter_busLog (s : State) (v : RunState) : (s.enter v).busLog = s.busLog := rfl
@[simp] theorem State.enter_cfg (s : State) (v : RunState) : (s.enter v).cfg = s.cfg := rfl

/-! ## `enterError` -/

@[simp] theorem State.enterError_a (s : State) : (s.enterError).a = s.a := rfl
@[simp] theorem State.enterError_b (s : State) : (s.enterError).b = s.b := rfl
@[simp] theorem State.enterError_c (s : State) : (s.enterError).c = s.c := rfl
@[simp] theorem State.enterError_d (s : State) : (s.enterError).d = s.d := rfl
@[simp] theorem State.enterError_e (s : State) : (s.enterError).e = s.e := rfl
@[simp] theorem State.enterError_h (s : State) : (s.enterError).h = s.h := rfl
@[simp] theorem State.enterError_l (s : State) : (s.enterError).l = s.l := rfl
@[simp] theorem State.enterError_pc (s : State) : (s.enterError).pc = s.pc := rfl
@[simp] theorem State.enterError_sp (s : State) : (s.enterError).sp = s.sp := rfl
@[simp] theorem State.enterError_f (s : State) : (s.enterError).f = s.f := rfl
@[simp] theorem State.enterError_cyc (s : State) : (s.enterError).cyc = s.cyc := rfl
@[simp] theorem State.enterError_st (s : State) : (s.enterError).st = .error := rfl
@[simp] theorem State.enterError_mem (s : State) : (s.enterError).mem = s.mem := rfl
@[simp] theorem State.enterError_busLog (s : State) : (s.enterError).busLog = s.busLog := rfl
@[simp] theorem State.enterError_cfg (s : State) : (s.enterError).cfg = s.cfg := rfl

/-! ## `call` -/

@[simp] theorem State.call_a (s : State) (k : BusCall) : (s.call k).a = s.a := rfl
@[simp] theorem State.call_b (s : State) (k : BusCall) : (s.call k).b = s.b := rfl
@[simp] theorem State.call_c (s : State) (k : BusCall) : (s.call k).c = s.c := rfl
@[simp] theorem State.call_d (s : State) (k : BusCall) : (s.call k).d = s.d := rfl
@[simp] theorem State.call_e (s : State) (k : BusCall) : (s.call k).e = s.e := rfl
@[simp] theorem State.call_h (s : State) (k : BusCall) : (s.call k).h = s.h := rfl
@[simp] theorem State.call_l (s : State) (k : BusCall) : (s.call k).l = s.l := rfl
@[simp] theorem State.call_pc (s : State) (k : BusCall) : (s.call k).pc = s.pc := rfl
@[simp] theorem State.call_sp (s : State) (k : BusCall) : (s.call k).sp = s.sp := rfl
@[simp] theorem State.call_f (s : State) (k : BusCall) : (s.call k).f = s.f := rfl
@[simp] theorem State.call_cyc (s : State) (k : BusCall) : (s.call k).cyc = s.cyc := rfl
@[simp] theorem State.call_st (s : State) (k : BusCall) : (s.call k).st = s.st := rfl
@[simp] theorem State.call_mem (s : State) (k : BusCall) : (s.call k).mem = s.mem := rfl
@[simp] theorem State.call_busLog (s : State) (k : BusCall) : (s.call k).busLog = k :: s.busLog := rfl
@[simp] theorem State.call_cfg (s : State) (k : BusCall) : (s.call k).cfg = s.cfg := rfl

/-! ## `hostReset` -/

@[simp] theorem State.hostReset_a (s : State) (rv : ResetValues) : (s.hostReset rv).a = rv.a := rfl
@[simp] theorem State.hostReset_b (s : State) (rv : ResetValues) : (s.hostReset rv).b = rv.b := rfl
@[simp] theorem State.hostReset_c (s : State) (rv : ResetValues) : (s.hostReset rv).c = rv.c := rfl
@[simp] theorem State.hostReset_d (s : State) (rv : ResetValues) : (s.hostReset rv).d = rv.d := rfl
@[simp] theorem State.hostReset_e (s : State) (rv : ResetValues) : (s.hostReset rv).e = rv.e := rfl
@[simp] theorem State.hostReset_h (s : State) (rv : ResetValues) : (s.hostReset rv).h = rv.h := rfl
@[simp] theorem State.hostReset_l (s : State) (rv : ResetValues) : (s.hostReset rv).l = rv.l := rfl
@[simp] theorem State.hostReset_pc (s : State) (rv : ResetValues) : (s.hostReset rv).pc = rv.pc := rfl
@[simp] theorem State.hostReset_sp (s : State) (rv : ResetValues) : (s.hostReset rv).sp = rv.sp := rfl
@[simp] theorem State.hostReset_f (s : State) (rv : ResetValues) : (s.hostReset rv).f = { z := false, n := false, h := false, c := false } := rfl
@[simp] theorem State.hostReset_cyc (s : State) (rv : ResetValues) : (s.hostReset rv).cyc = 0 := rfl
@[simp] theorem State.hostReset_st (s : State) (rv : ResetValues) : (s.hostReset rv).st = .normal := rfl
@[simp] theorem State.hostReset_mem (s : State) (rv : ResetValues) : (s.hostReset rv).mem = s.mem := rfl
@[simp] theorem State.hostReset_busLog (s : State) (rv : ResetValues) : (s.hostReset rv).busLog = s.busLog := rfl
@[simp] theorem State.hostReset_cfg (s : State) (rv : ResetValues) : (s.hostReset rv).cfg = s.cfg := rfl

/-! ## `setReg`, `setPair`, `setReg16`: the fields that are no general register -/

@[simp] theorem State.setReg_pc (s : State) (r : Reg8) (v : Byte) : (s.setReg r v).pc = s.pc := by cases r <;> rfl
@[simp] theorem State.setReg_sp (s : State) (r : Reg8) (v : Byte) : (s.setReg r v).sp = s.sp := by cases r <;> rfl
@[simp] theorem State.setReg_f (s : State) (r : Reg8) (v : Byte) : (s.setReg r v).f = s.f := by cases r <;> rfl
@[simp] theorem State.setReg_cyc (s : State) (r : Reg8) (v : Byte) : (s.setReg r v).cyc = s.cyc := by cases r <;> rfl
@[simp] theorem State.setReg_st (s : State) (r : Reg8) (v : Byte) : (s.setReg r v).st = s.st := by cases r <;> rfl
@[simp] theorem State.setReg_mem (s : State) (r : Reg8) (v : Byte) : (s.setReg r v).mem = s.mem := by cases r <;> rfl
@[simp] theorem State.setReg_busLog (s : State) (r : Reg8) (v : Byte) : (s.setReg r v).busLog = s.busLog := by cases r <;> rfl
@[simp] theorem State.setReg_cfg (s : State) (r : Reg8) (v : Byte) : (s.setReg r v).cfg = s.cfg := by cases r <;> rfl
@[simp] theorem State.setPair_pc (s : State) (q : RegPair) (v : Word) : (s.setPair q v).pc = s.pc := by cases q <;> rfl
@[simp] theorem State.setPair_sp (s : State) (q : RegPair) (v : Word) : (s.setPair q v).sp = s.sp := by cases q <;> rfl
@[simp] theorem State.setPair_f (s : State) (q : RegPair) (v : Word) : (s.setPair q v).f = s.f := by cases q <;> rfl
@[simp] theorem State.setPair_cyc (s : State) (q : RegPair) (v : Word) : (s.setPair q v).cyc = s.cyc := by cases q <;> rfl
@[simp] theorem State.setPair_st (s : State) (q : RegPair) (v : Word) : (s.setPair q v).st = s.st := by cases q <;> rfl
@[simp] theorem State.setPair_mem (s : State) (q : RegPair) (v : Word) : (s.setPair q v).mem = s.mem := by cases q <;> rfl
@[simp] theorem State.setPair_busLog (s : State) (q : RegPair) (v : Word) : (s.setPair q v).busLog = s.busLog := by cases q <;> rfl
@[simp] theorem State.setPair_cfg (s : State) (q : RegPair) (v : Word) : (s.setPair q v).cfg = s.cfg := by cases q <;> rfl
@[simp] theorem State.setReg16_pc (s : State) (rr : Reg16) (v : Word) : (s.setReg16 rr v).pc = s.pc := by
  cases rr <;> simp [State.setReg16]
@[simp] theorem State.setReg16_f (s : State) (rr : Reg16) (v : Word) : (s.setReg16 rr v).f = s.f := by
  cases rr <;> simp [State.setReg16]
@[simp] theorem State.setReg16_cyc (s : State) (rr : Reg16) (v : Word) : (s.setReg16 rr v).cyc = s.cyc := by
  cases rr <;> simp [State.setReg16]
@[simp] theorem State.setReg16_st (s : State) (rr : Reg16) (v : Word) : (s.setReg16 rr v).st = s.st := by
  cases rr <;> simp [State.setReg16]
@[simp] theorem State.setReg16_mem (s : State) (rr : Reg16) (v : Word) : (s.setReg16 rr v).mem = s.mem := by
  cases rr <;> simp [State.setReg16]
@[simp] theorem State.setReg16_busLog (s : State) (rr : Reg16) (v : Word) : (s.setReg16 rr v).busLog = s.busLog := by
  cases rr <;> simp [State.setReg16]
@[simp] theorem State.setReg16_cfg (s : State) (rr : Reg16) (v : Word) : (s.setReg16 rr v).cfg = s.cfg := by
  cases rr <;> simp [State.setReg16]

@[simp] theorem State.setReg16_sp_sp (s : State) (v : Word) : (s.setReg16 .sp v).sp = v := rfl
@[simp] theorem State.setReg16_pair_sp (s : State) (q : RegPair) (v : Word) : (s.setReg16 (.pair q) v).sp = s.sp := by
  simp [State.setReg16]

/-! ## `writeByte`, `writeWord` -/

@[simp] theorem State.writeByte_a (s : State) (a : Word) (v : Byte) : (s.writeByte a v).a = s.a := by
  unfold State.writeByte; split <;> rfl
@[simp] theorem State.writeByte_b (s : State) (a : Word) (v : Byte) : (s.writeByte a v).b = s.b := by
  unfold State.writeByte; split <;> rfl
@[simp] theorem State.writeByte_c (s : State) (a : Word) (v : Byte) : (s.writeByte a v).c = s.c := by
  unfold State.writeByte; split <;> rfl
@[simp] theorem State.writeByte_d (s : State) (a : Word) (v : Byte) : (s.writeByte a v).d = s.d := by
  unfold State.writeByte; split <;> rfl
@[simp] theorem State.writeByte_e (s : State) (a : Word) (v : Byte) : (s.writeByte a v).e = s.e := by
  unfold State.writeByte; split <;> rfl
@[simp] theorem State.writeByte_h (s : State) (a : Word) (v : Byte) : (s.writeByte a v).h = s.h := by
  unfold State.writeByte; split <;> rfl
@[simp] theorem State.writeByte_l (s : State) (a : Word) (v : Byte) : (s.writeByte a v).l = s.l := by
  unfold State.writeByte; split <;> rfl
@[simp] theorem State.writeByte_pc (s : State) (a : Word) (v : Byte) : (s.writeByte a v).pc = s.pc := by
  unfold State.writeByte; split <;> rfl
@[simp] theorem State.writeByte_sp (s : State) (a : Word) (v : Byte) : (s.writeByte a v).sp = s.sp := by
  unfold State.writeByte; split <;> rfl
@[simp] theorem State.writeByte_f (s : State) (a : Word) (v : Byte) : (s.writeByte a v).f = s.f := by
  unfold State.writeByte; split <;> rfl
@[simp] theorem State.writeByte_cyc (s : State) (a : Word) (v : Byte) : (s.writeByte a v).cyc = s.cyc := by
  unfold State.writeByte; split <;> rfl
@[simp] theorem State.writeByte_st (s : State) (a : Word) (v : Byte) : (s.writeByte a v).st = s.st := by
  unfold State.writeByte; split <;> rfl
@[simp] theorem State.writeByte_cfg (s : State) (a : Word) (v : Byte) : (s.writeByte a v).cfg = s.cfg := by
  unfold State.writeByte; split <;> rfl
@[simp] theorem State.writeByte_busLog (s : State) (a : Word) (v : Byte) : (s.writeByte a v).busLog = .writeByte v a :: s.busLog := by
  unfold State.writeByte; split <;> rfl

@[simp] theorem State.writeWord_a (s : State) (a v : Word) : (s.writeWord a v).a = s.a := by
  unfold State.writeWord; split <;> rfl
@[simp] theorem State.writeWord_b (s : State) (a v : Word) : (s.writeWord a v).b = s.b := by
  unfold State.writeWord; split <;> rfl
@[simp] theorem State.writeWord_c (s : State) (a v : Word) : (s.writeWord a v).c = s.c := by
  unfold State.writeWord; split <;> rfl
@[simp] theorem State.writeWord_d (s : State) (a v : Word) : (s.writeWord a v).d = s.d := by
  unfold State.writeWord; split <;> rfl
@[simp] theorem State.writeWord_e (s : State) (a v : Word) : (s.writeWord a v).e = s.e := by
  unfold State.writeWord; split <;> rfl
@[simp] theorem State.writeWord_h (s : State) (a v : Word) : (s.writeWord a v).h = s.h := by
  unfold State.writeWord; split <;> rfl
@[simp] theorem State.writeWord_l (s : State) (a v : Word) : (s.writeWord a v).l = s.l := by
  unfold State.writeWord; split <;> rfl
@[simp] theorem State.writeWord_pc (s : State) (a v : Word) : (s.writeWord a v).pc = s.pc := by
  unfold State.writeWord; split <;> rfl
@[simp] theorem State.writeWord_sp (s : State) (a v : Word) : (s.writeWord a v).sp = s.sp := by
  unfold State.writeWord; split <;> rfl
@[simp] theorem State.writeWord_f (s : State) (a v : Word) : (s.writeWord a v).f = s.f := by
  unfold State.writeWord; split <;> rfl
@[simp] theorem State.writeWord_cyc (s : State) (a v : Word) : (s.writeWord a v).cyc = s.cyc := by
  unfold State.writeWord; split <;> rfl
@[simp] theorem State.writeWord_st (s : State) (a v : Word) : (s.writeWord a v).st = s.st := by
  unfold State.writeWord; split <;> rfl
@[simp] theorem State.writeWord_cfg (s : State) (a v : Word) : (s.writeWord a v).cfg = s.cfg := by
  unfold State.writeWord; split <;> rfl
@[simp] theorem State.writeWord_busLog (s : State) (a v : Word) : (s.writeWord a v).busLog = .writeWord v a :: s.busLog := by
  unfold State.writeWord; split <;> rfl

/-- Over the flat RAM a byte write is a write of the memory list. -/
theorem State.writeByte_mem_flatRam (s : State) (a : Word) (v : Byte) (h : s.cfg.bus = .flatRam) :
    (s.writeByte a v).mem = s.mem.write a v := by
  simp [State.writeByte, h]

/-- With an oracle behind the bus the memory list is not touched. -/
theorem State.writeByte_mem_oracle (s : State) (a : Word) (v : Byte) (h : s.cfg.bus = .oracle) :
    (s.writeByte a v).mem = s.mem := by
  simp [State.writeByte, h]

/-- Over the flat RAM a word write is two byte writes, the low byte first. -/
theorem State.writeWord_mem_flatRam (s : State) (a v : Word) (h : s.cfg.bus = .flatRam) :
    (s.writeWord a v).mem = (s.mem.write a (lowByte v)).write (a + 1) (highByte v) := by
  simp [State.writeWord, h]

/-! ## `readByte`, `readWord` -/

@[simp] theorem State.readByte_fst (s : State) (a : Word) : (s.readByte a).1 = s.busByte a := rfl
@[simp] theorem State.readByte_snd (s : State) (a : Word) : (s.readByte a).2 = s.call (.readByte a) := rfl
@[simp] theorem State.readWord_fst (s : State) (a : Word) : (s.readWord a).1 = s.busWord a := rfl
@[simp] theorem State.readWord_snd (s : State) (a : Word) : (s.readWord a).2 = s.call (.readWord a) := rfl

/-- Over the flat RAM a byte read is answered with the byte the memory holds. -/
theorem State.busByte_flatRam (s : State) (a : Word) (h : s.cfg.bus = .flatRam) : s.busByte a = s.mem.read a := by
  simp [State.busByte, h]

/-- What a byte read is answered depends on the bus, the memory and the calls made, and on nothing else. -/
theorem State.busByte_congr (s t : State) (a : Word) (hc : t.cfg = s.cfg) (hm : t.mem = s.mem)
    (hl : t.busLog = s.busLog) : t.busByte a = s.busByte a := by
  simp [State.busByte, hc, hm, hl]

end Sys2Proof.Machine
end

