-- ==== Sys2Proof/Laws/Registers.lean ====
section
/-! SUPPORT. The register file: reads after writes, and pairs as views of their registers (10_state.md R20 to R23). -/

namespace Sys2Proof.Machine

theorem toNat_lowByte (v : Word) : (lowByte v).toNat = v.toNat % 256 := by simp [lowByte]

theorem toNat_highByte (v : Word) : (highByte v).toNat = v.toNat / 256 := by
  simp [highByte, Nat.shiftRight_eq_div_pow]; omega

theorem toNat_joinBytes (x y : Byte) : (joinBytes x y).toNat = x.toNat * 256 + y.toNat := by
  have h := Nat.shiftLeft_add_eq_or_of_lt y.isLt x.toNat
  simp only [Nat.shiftLeft_eq] at h
  simp only [joinBytes, BitVec.toNat_append, Nat.shiftLeft_eq]
  omega

@[simp] theorem joinBytes_high_low (v : Word) : joinBytes (highByte v) (lowByte v) = v := by
  apply BitVec.eq_of_toNat_eq
  rw [toNat_joinBytes, toNat_highByte, toNat_lowByte]; omega

@[simp] theorem highByte_joinBytes (x y : Byte) : highByte (joinBytes x y) = x := by
  apply BitVec.eq_of_toNat_eq
  rw [toNat_highByte, toNat_joinBytes]; omega

@[simp] theorem lowByte_joinBytes (x y : Byte) : lowByte (joinBytes x y) = y := by
  apply BitVec.eq_of_toNat_eq
  rw [toNat_lowByte, toNat_joinBytes]; omega

/-- A register reads as written, the others as before. -/
theorem State.reg_setReg (s : State) (r q : Reg8) (v : Byte) :
    (s.setReg r v).reg q = if q = r then v else s.reg q := by
  cases r <;> cases q <;> rfl

@[simp] theorem State.reg_setReg_same (s : State) (r : Reg8) (v : Byte) : (s.setReg r v).reg r = v := by
  simp [State.reg_setReg]

theorem State.reg_setReg_ne (s : State) {r q : Reg8} (v : Byte) (h : q ≠ r) : (s.setReg r v).reg q = s.reg q := by
  simp [State.reg_setReg, h]

/-- A pair's two registers are two. -/
theorem pairHigh_ne_pairLow (p : RegPair) : pairHigh p ≠ pairLow p := by cases p <;> decide

/-- A pair reads as written (10_state.md R23). -/
@[simp] theorem State.pair_setPair (s : State) (p : RegPair) (v : Word) : (s.setPair p v).pair p = v := by
  cases p <;> exact joinBytes_high_low v

theorem State.reg_setPair (s : State) (p : RegPair) (v : Word) (q : Reg8) :
    (s.setPair p v).reg q = if q = pairHigh p then highByte v else if q = pairLow p then lowByte v else s.reg q := by
  cases p <;> cases q <;> rfl

/-! ## The registers are not touched by the operations on other fields -/

@[simp] theorem State.reg_setPc (s : State) (v : Word) (r : Reg8) : (s.setPc v).reg r = s.reg r := by cases r <;> rfl
@[simp] theorem State.reg_setFlags (s : State) (v : Flags) (r : Reg8) : (s.setFlags v).reg r = s.reg r := by
  cases r <;> rfl
@[simp] theorem State.reg_advance (s : State) (n : Nat) (r : Reg8) : (s.advance n).reg r = s.reg r := by cases r <;> rfl
@[simp] theorem State.reg_enter (s : State) (v : RunState) (r : Reg8) : (s.enter v).reg r = s.reg r := by cases r <;> rfl
@[simp] theorem State.reg_enterError (s : State) (r : Reg8) : s.enterError.reg r = s.reg r := by cases r <;> rfl
@[simp] theorem State.reg_call (s : State) (k : BusCall) (r : Reg8) : (s.call k).reg r = s.reg r := by cases r <;> rfl
@[simp] theorem State.reg_writeByte (s : State) (a : Word) (v : Byte) (r : Reg8) : (s.writeByte a v).reg r = s.reg r := by
  cases r <;> simp [State.reg]

@[simp] theorem State.pair_setPc (s : State) (v : Word) (p : RegPair) : (s.setPc v).pair p = s.pair p := by
  simp [State.pair]
@[simp] theorem State.pair_setFlags (s : State) (v : Flags) (p : RegPair) : (s.setFlags v).pair p = s.pair p := by
  simp [State.pair]
@[simp] theorem State.pair_advance (s : State) (n : Nat) (p : RegPair) : (s.advance n).pair p = s.pair p := by
  simp [State.pair]
@[simp] theorem State.pair_call (s : State) (k : BusCall) (p : RegPair) : (s.call k).pair p = s.pair p := by
  simp [State.pair]
@[simp] theorem State.pair_writeByte (s : State) (a : Word) (v : Byte) (p : RegPair) :
    (s.writeByte a v).pair p = s.pair p := by
  simp [State.pair]

/-- A pair does not change when a register that is neither half is written. -/
theorem State.pair_setReg_ne (s : State) (r : Reg8) (v : Byte) (p : RegPair) (hh : r ≠ pairHigh p) (hl : r ≠ pairLow p) :
    (s.setReg r v).pair p = s.pair p := by
  simp [State.pair, State.reg_setReg, hh.symm, hl.symm]

/-! ## What a bus answers does not depend on the registers, the flags, `pc` or `cyc` -/

@[simp] theorem State.busByte_setReg (s : State) (r : Reg8) (v : Byte) (a : Word) :
    (s.setReg r v).busByte a = s.busByte a := by simp [State.busByte]
@[simp] theorem State.busByte_setFlags (s : State) (f : Flags) (a : Word) :
    (s.setFlags f).busByte a = s.busByte a := by simp [State.busByte]
@[simp] theorem State.busByte_setPc (s : State) (v a : Word) : (s.setPc v).busByte a = s.busByte a := by
  simp [State.busByte]
@[simp] theorem State.busByte_advance (s : State) (n : Nat) (a : Word) : (s.advance n).busByte a = s.busByte a := by
  simp [State.busByte]

end Sys2Proof.Machine
end

