-- ==== Sys2Proof/Laws/Effects.lean ====
section
/-! SUPPORT. Each shared operation as one chain of updates, with what it reads named: every field of what it answers then
follows from the lemmas of Laws/State.lean and Laws/Registers.lean. -/

namespace Sys2Proof.Machine

theorem loadReg_eq (r : Reg8) (p : RegPair) (s : State) :
    loadReg r p s = ((s.call (.readByte (s.pair p))).setReg r (s.busByte (s.pair p))).advance 2 := rfl

theorem loadStep_eq (step : Word → Word) (s : State) :
    loadStep step s =
      (((s.call (.readByte (s.pair .hl))).setReg .a (s.busByte (s.pair .hl))).setPair .hl (step (s.pair .hl))).advance 2 :=
  rfl

theorem incMem_eq (s : State) :
    incMem s =
      (((s.call (.readByte (s.pair .hl))).writeByte (s.pair .hl) (incByte (s.busByte (s.pair .hl)))).setFlags
        (s.f.inc (s.busByte (s.pair .hl)))).advance 3 := rfl

theorem decMem_eq (s : State) :
    decMem s =
      (((s.call (.readByte (s.pair .hl))).writeByte (s.pair .hl) (decByte (s.busByte (s.pair .hl)))).setFlags
        (s.f.dec (s.busByte (s.pair .hl)))).advance 3 := rfl

/-! ## The second operand (42_arith.md R130) -/

@[simp] theorem State.operand_reg (s : State) (r : Reg8) : s.operand (.reg r) = (s.reg r, s) := rfl

@[simp] theorem State.operand_atHL (s : State) :
    s.operand .atHL = (s.busByte (s.pair .hl), s.call (.readByte (s.pair .hl))) := rfl

/-! Reading the operand changes nothing but the calls made. -/

@[simp] theorem State.operand_a (s : State) (x : Operand) : (s.operand x).2.a = s.a := by cases x <;> rfl
@[simp] theorem State.operand_b (s : State) (x : Operand) : (s.operand x).2.b = s.b := by cases x <;> rfl
@[simp] theorem State.operand_c (s : State) (x : Operand) : (s.operand x).2.c = s.c := by cases x <;> rfl
@[simp] theorem State.operand_d (s : State) (x : Operand) : (s.operand x).2.d = s.d := by cases x <;> rfl
@[simp] theorem State.operand_e (s : State) (x : Operand) : (s.operand x).2.e = s.e := by cases x <;> rfl
@[simp] theorem State.operand_h (s : State) (x : Operand) : (s.operand x).2.h = s.h := by cases x <;> rfl
@[simp] theorem State.operand_l (s : State) (x : Operand) : (s.operand x).2.l = s.l := by cases x <;> rfl
@[simp] theorem State.operand_pc (s : State) (x : Operand) : (s.operand x).2.pc = s.pc := by cases x <;> rfl
@[simp] theorem State.operand_sp (s : State) (x : Operand) : (s.operand x).2.sp = s.sp := by cases x <;> rfl
@[simp] theorem State.operand_f (s : State) (x : Operand) : (s.operand x).2.f = s.f := by cases x <;> rfl
@[simp] theorem State.operand_cyc (s : State) (x : Operand) : (s.operand x).2.cyc = s.cyc := by cases x <;> rfl
@[simp] theorem State.operand_st (s : State) (x : Operand) : (s.operand x).2.st = s.st := by cases x <;> rfl
@[simp] theorem State.operand_mem (s : State) (x : Operand) : (s.operand x).2.mem = s.mem := by cases x <;> rfl
@[simp] theorem State.operand_cfg (s : State) (x : Operand) : (s.operand x).2.cfg = s.cfg := by cases x <;> rfl
@[simp] theorem State.operand_reg_snd (s : State) (x : Operand) (r : Reg8) : (s.operand x).2.reg r = s.reg r := by
  cases x <;> simp

theorem addA_eq (x : Operand) (s : State) :
    addA x s =
      (((s.operand x).2.setReg .a (addBytes s.a (s.operand x).1 false)).setFlags
        (Flags.ofAdd s.a (s.operand x).1 false)).advance (operandCost x) := rfl

theorem adcA_eq (x : Operand) (s : State) :
    adcA x s =
      (((s.operand x).2.setReg .a (addBytes s.a (s.operand x).1 s.f.c)).setFlags
        (Flags.ofAdd s.a (s.operand x).1 s.f.c)).advance (operandCost x) := rfl

theorem subA_eq (x : Operand) (s : State) :
    subA x s =
      (((s.operand x).2.setReg .a (subBytes s.a (s.operand x).1 false)).setFlags
        (Flags.ofSub s.a (s.operand x).1 false)).advance (operandCost x) := rfl

theorem sbcA_eq (x : Operand) (s : State) :
    sbcA x s =
      (((s.operand x).2.setReg .a (subBytes s.a (s.operand x).1 s.f.c)).setFlags
        (Flags.ofSub s.a (s.operand x).1 s.f.c)).advance (operandCost x) := rfl

theorem andA_eq (x : Operand) (s : State) :
    andA x s =
      (((s.operand x).2.setReg .a (s.a &&& (s.operand x).1)).setFlags (Flags.ofAnd (s.a &&& (s.operand x).1))).advance
        (operandCost x) := rfl

/-! ## The arithmetic, as numbers -/

theorem toNat_incByte (old : Byte) : (incByte old).toNat = (old.toNat + 1) % 256 := by simp [incByte]

theorem toNat_decByte (old : Byte) : (decByte old).toNat = (old.toNat + 255) % 256 := by
  simp [decByte, BitVec.toNat_sub, Nat.add_comm]

theorem toNat_addBytes (a v : Byte) (c : Bool) : (addBytes a v c).toNat = (a.toNat + v.toNat + c.toNat) % 256 := by
  simp [addBytes, trunc8]

theorem toNat_subBytes (a v : Byte) (c : Bool) :
    ((subBytes a v c).toNat : Int) = ((a.toNat : Int) - v.toNat - c.toNat) % 256 := by
  simp [subBytes, truncInt8, BitVec.toNat_ofInt]; omega

theorem toNat_addWords (a b : Word) : (addWords a b).toNat = (a.toNat + b.toNat) % 65536 := by
  simp [addWords, trunc16]

theorem toNat_shiftInLow (a : Byte) (b : Bool) : (shiftInLow a b).toNat = a.toNat % 128 * 2 + b.toNat := by
  have h := Nat.shiftLeft_add_eq_or_of_lt (BitVec.ofBool b).isLt (a.toNat % 128)
  simp only [Nat.shiftLeft_eq] at h
  simp only [shiftInLow, BitVec.toNat_append, Nat.shiftLeft_eq, BitVec.extractLsb'_toNat, Nat.shiftRight_zero]
  cases b <;> simp_all

theorem toNat_shiftInHigh (a : Byte) (b : Bool) : (shiftInHigh a b).toNat = b.toNat * 128 + a.toNat / 2 := by
  have h := Nat.shiftLeft_add_eq_or_of_lt (a.extractLsb' 1 7).isLt b.toNat
  have hx : (a.extractLsb' 1 7).toNat = a.toNat / 2 := by simp [Nat.shiftRight_eq_div_pow]; omega
  simp only [Nat.shiftLeft_eq] at h
  simp only [shiftInHigh, BitVec.toNat_append, Nat.shiftLeft_eq, BitVec.toNat_ofBool]
  omega

end Sys2Proof.Machine
end

