-- ==== Sys2Proof/Laws/Forms.lean ====
section
/-! SUPPORT. `exec` by the form of the instruction: what holds of each of the 36 forms, with any operands, holds of each
of the 166 instructions. A claim over all instructions is proved over the forms. -/

namespace Sys2Proof.Machine

/-- The shared operation of a form. -/
def Form.run (k : Form) (s : State) : State :=
  match k with
  | .ldImm r n => ldImm r n s
  | .ldMemImm n => ldMemImm n s
  | .ldPairImm rr nn => ldImm16 rr nn s
  | .ldReg r r' => ldReg r r' s
  | .ldFromHL r => loadReg r .hl s
  | .ldToHL r => storeReg .hl r s
  | .ldAFromPair p => loadReg .a p s
  | .ldPairFromA p => storeReg p .a s
  | .ldiStore => storeStep (· + 1) s
  | .ldiLoad => loadStep (· + 1) s
  | .lddStore => storeStep (· - 1) s
  | .lddLoad => loadStep (· - 1) s
  | .incReg r => inc8 r s
  | .decReg r => dec8 r s
  | .incMem => incMem s
  | .decMem => decMem s
  | .incPair rr => inc16 rr s
  | .decPair rr => dec16 rr s
  | .addHL rr => addToHL rr s
  | .add x => addA x s
  | .adc x => adcA x s
  | .sub x => subA x s
  | .sbc x => sbcA x s
  | .and x => andA x s
  | .daa => decimalAdjust s
  | .rlca => rotateLeft s (highBit s.a)
  | .rrca => rotateRight s (lowBit s.a)
  | .rla => rotateLeft s s.f.c
  | .rra => rotateRight s s.f.c
  | .jr d => jumpRelative d s
  | .jrIf cc d => jumpIf cc d s
  | .scf => flagsOnly s s.f.scf
  | .ccf => flagsOnly s s.f.ccf
  | .nop => s.advance 1
  | .stop => stopIn .terminated s
  | .halt => stopIn .halted s

/-- Every instruction runs the shared operation of its form. -/
theorem exec_eq_run (i : Instr) (s : State) : exec i s = .next (Form.run i.form s) := by
  cases i <;> rfl

/-- Only STOP and HALT write `st` (60_exceptions.md R210). -/
theorem Form.run_st (k : Form) (s : State) :
    (Form.run k s).st = match k with | .halt => .halted | .stop => .terminated | _ => s.st := by
  cases k
  case jrIf cc d => show (jumpIf cc d s).st = s.st; unfold jumpIf; split <;> rfl
  all_goals simp [Form.run, ldImm, ldMemImm, ldImm16, ldReg, storeReg, loadReg_eq, storeStep, loadStep_eq, inc8, dec8,
    incMem_eq, decMem_eq, inc16, dec16, addToHL, addA_eq, adcA_eq, subA_eq, sbcA_eq, andA_eq, decimalAdjust, rotateLeft,
    rotateRight, jumpRelative, flagsOnly, stopIn]

/-- No instruction writes the parameters. -/
theorem Form.run_cfg (k : Form) (s : State) : (Form.run k s).cfg = s.cfg := by
  cases k
  case jrIf cc d => show (jumpIf cc d s).cfg = s.cfg; unfold jumpIf; split <;> rfl
  all_goals simp [Form.run, ldImm, ldMemImm, ldImm16, ldReg, storeReg, loadReg_eq, storeStep, loadStep_eq, inc8, dec8,
    incMem_eq, decMem_eq, inc16, dec16, addToHL, addA_eq, adcA_eq, subA_eq, sbcA_eq, andA_eq, decimalAdjust, rotateLeft,
    rotateRight, jumpRelative, flagsOnly, stopIn]

/-- Only the registers the form lists as written change (10_state.md R21). -/
theorem Form.run_reg (k : Form) (s : State) (r : Reg8) (h : r ∉ Form.regsWritten k) :
    (Form.run k s).reg r = s.reg r := by
  cases k
  case jrIf cc d => show (jumpIf cc d s).reg r = _; unfold jumpIf; split <;> cases r <;> rfl
  case ldPairImm rr n =>
    cases rr <;> simp_all [Form.run, ldImm16, State.setReg16, Form.regsWritten, reg16Regs, State.reg_setPair]
    cases r <;> rfl
  case incPair rr =>
    cases rr <;> simp_all [Form.run, inc16, State.setReg16, Form.regsWritten, reg16Regs, State.reg_setPair]
    cases r <;> rfl
  case decPair rr =>
    cases rr <;> simp_all [Form.run, dec16, State.setReg16, Form.regsWritten, reg16Regs, State.reg_setPair]
    cases r <;> rfl
  all_goals
    simp_all [Form.run, Form.regsWritten, ldImm, ldMemImm, ldReg, storeReg, loadReg_eq, storeStep, loadStep_eq, inc8, dec8,
    incMem_eq, decMem_eq, addToHL, addA_eq, adcA_eq, subA_eq, sbcA_eq, andA_eq, decimalAdjust, rotateLeft,
    rotateRight, jumpRelative, flagsOnly, stopIn, State.reg_setReg, State.reg_setPair, pairHigh, pairLow]

/-- Only the flags the form lists as written change (10_state.md R30). -/
theorem Form.run_flag (k : Form) (s : State) (f : FlagName) (h : f ∉ Form.flagsWritten k) :
    (Form.run k s).f.get f = s.f.get f := by
  cases k
  case jrIf cc d => show (jumpIf cc d s).f.get f = _; unfold jumpIf; split <;> rfl
  all_goals cases f
  all_goals first | rfl | (simp [Form.flagsWritten] at h; done) | skip
  all_goals
    simp_all [Form.run, Form.flagsWritten, ldImm, ldMemImm, ldImm16, ldReg, storeReg, loadReg_eq, storeStep, inc16, dec16]

/-- Only the jumps write `pc` (10_state.md R25). -/
theorem Form.run_pc (k : Form) (s : State) (h : ∀ d, k ≠ .jr d) (h' : ∀ cc d, k ≠ .jrIf cc d) :
    (Form.run k s).pc = s.pc := by
  cases k
  case jrIf cc d => exact absurd rfl (h' cc d)
  case jr d => exact absurd rfl (h d)
  all_goals
    simp [Form.run, ldImm, ldMemImm, ldImm16, ldReg, storeReg, loadReg_eq, storeStep, loadStep_eq, inc8, dec8,
    incMem_eq, decMem_eq, inc16, dec16, addToHL, addA_eq, adcA_eq, subA_eq, sbcA_eq, andA_eq, decimalAdjust, rotateLeft,
    rotateRight, flagsOnly, stopIn]

/-- Memory changes by the one store the form lists, or not at all (20_memory.md R56). -/
theorem Form.run_mem (k : Form) (s : State) :
    (Form.run k s).mem =
      match Form.store s k with
      | some (a, v) => (s.writeByte a v).mem
      | none => s.mem := by
  cases k
  case jrIf cc d => show (jumpIf cc d s).mem = _; unfold jumpIf; split <;> rfl
  case incMem => simp only [Form.run, Form.store]; simp [incMem_eq]; simp [State.writeByte]; split <;> rfl
  case decMem => simp only [Form.run, Form.store]; simp [decMem_eq]; simp [State.writeByte]; split <;> rfl
  all_goals
    simp [Form.run, Form.store, ldImm, ldMemImm, ldImm16, ldReg, storeReg, loadReg_eq, storeStep, loadStep_eq, inc8, dec8,
     inc16, dec16, addToHL, addA_eq, adcA_eq, subA_eq, sbcA_eq, andA_eq, decimalAdjust, rotateLeft,
    rotateRight, jumpRelative, flagsOnly, stopIn, State.reg]

end Sys2Proof.Machine
end

