-- ==== Sys2Proof/Laws/Memory.lean ====
section
/-! SUPPORT. The flat RAM: a byte written reads back, the others stay, and every operation keeps the canonical form
(20_memory.md R51, R60, R62). -/

namespace Sys2Proof.Machine

/-- The canonical form from an address up is that from any lower address. -/
theorem Memory.wfFrom_mono {low low' : Nat} (h : low' ≤ low) (m : Memory) (hm : Memory.wfFrom low m = true) :
    Memory.wfFrom low' m = true := by
  cases m with
  | nil => rfl
  | cons c rest =>
    simp only [Memory.wfFrom, Bool.and_eq_true, decide_eq_true_eq] at hm ⊢
    exact ⟨⟨⟨by omega, hm.1.1.2⟩, hm.1.2⟩, hm.2⟩

/-- Below its first address a canonical memory lists nothing. -/
theorem Memory.readAt_below {low n : Nat} (m : Memory) (hm : Memory.wfFrom low m = true) (h : n < low) :
    Memory.readAt m n = Config.unlistedByte := by
  induction m generalizing low with
  | nil => rfl
  | cons c rest ih =>
    simp only [Memory.wfFrom, Bool.and_eq_true, decide_eq_true_eq] at hm
    rw [Memory.readAt, if_neg (by omega)]
    exact ih hm.2 (by omega)

/-- A byte written reads back. -/
theorem Memory.readAt_writeAt_same {low : Nat} (n : Nat) (v : Byte) (m : Memory) (hm : Memory.wfFrom low m = true) :
    Memory.readAt (Memory.writeAt n v m) n = v := by
  induction m generalizing low with
  | nil => by_cases h : v = Config.unlistedByte <;> simp [Memory.writeAt, Memory.readAt, h]
  | cons c rest ih =>
    have hr := hm
    simp only [Memory.wfFrom, Bool.and_eq_true, decide_eq_true_eq] at hr
    simp only [Memory.writeAt]
    split
    · split
      · next hlt hv =>
        rw [hv, Memory.readAt, if_neg (by omega)]
        exact Memory.readAt_below rest hr.2 (by omega)
      · simp [Memory.readAt]
    · split
      · split
        · next heq hv =>
          rw [hv]
          exact Memory.readAt_below rest hr.2 (by omega)
        · simp [Memory.readAt]
      · rw [Memory.readAt, if_neg (by omega)]
        exact ih hr.2

/-- The other bytes stay, whatever the memory. -/
theorem Memory.readAt_writeAt_ne (n k : Nat) (v : Byte) (m : Memory) (h : k ≠ n) :
    Memory.readAt (Memory.writeAt n v m) k = Memory.readAt m k := by
  induction m with
  | nil => by_cases hv : v = Config.unlistedByte <;> simp [Memory.writeAt, Memory.readAt, hv, h.symm]
  | cons c rest ih =>
    simp only [Memory.writeAt]
    split
    · split <;> simp [Memory.readAt, h.symm]
    · split
      · next heq => split <;> simp [Memory.readAt, ← heq, h.symm]
      · simp [Memory.readAt, ih]

/-- A write keeps the canonical form. -/
theorem Memory.wfFrom_writeAt {low : Nat} (n : Nat) (v : Byte) (m : Memory) (hl : low ≤ n) (hn : n < 65536)
    (hm : Memory.wfFrom low m = true) : Memory.wfFrom low (Memory.writeAt n v m) = true := by
  induction m generalizing low with
  | nil => by_cases h : v = Config.unlistedByte <;> simp [Memory.writeAt, Memory.wfFrom, h, hl, hn]
  | cons c rest ih =>
    have hr := hm
    simp only [Memory.wfFrom, Bool.and_eq_true, decide_eq_true_eq] at hr
    simp only [Memory.writeAt]
    split
    · split
      · exact hm
      · next hlt hv =>
        simp only [Memory.wfFrom, Bool.and_eq_true, decide_eq_true_eq, bne_iff_ne, ne_eq]
        exact ⟨⟨⟨hl, hn⟩, hv⟩, ⟨⟨by omega, hr.1.1.2⟩, by simpa using hr.1.2⟩, hr.2⟩
    · split
      · split
        · exact Memory.wfFrom_mono (by omega) rest hr.2
        · next heq hv =>
          simp only [Memory.wfFrom, Bool.and_eq_true, decide_eq_true_eq, bne_iff_ne, ne_eq]
          exact ⟨⟨⟨hl, hn⟩, hv⟩, by subst heq; exact hr.2⟩
      · simp only [Memory.wfFrom, Bool.and_eq_true, decide_eq_true_eq, bne_iff_ne, ne_eq]
        exact ⟨⟨⟨hr.1.1.1, hr.1.1.2⟩, by simpa using hr.1.2⟩, ih (by omega) hr.2⟩

/-! ## By 16-bit address -/

theorem Memory.read_write_same (m : Memory) (a : Word) (v : Byte) (hm : m.wf = true) : (m.write a v).read a = v :=
  Memory.readAt_writeAt_same a.toNat v m hm

theorem Memory.read_write_ne (m : Memory) (a b : Word) (v : Byte) (h : b ≠ a) : (m.write a v).read b = m.read b :=
  Memory.readAt_writeAt_ne a.toNat b.toNat v m fun he => h (BitVec.eq_of_toNat_eq he)

theorem Memory.wf_write (m : Memory) (a : Word) (v : Byte) (hm : m.wf = true) : (m.write a v).wf = true :=
  Memory.wfFrom_writeAt a.toNat v m (Nat.zero_le _) a.isLt hm

/-! ## Through the bus port -/

/-- A byte write keeps the canonical form. -/
theorem State.wf_writeByte (s : State) (a : Word) (v : Byte) (h : s.mem.wf = true) : (s.writeByte a v).mem.wf = true := by
  unfold State.writeByte
  split
  · exact Memory.wf_write _ _ _ h
  · exact h

/-- A word write keeps the canonical form. -/
theorem State.wf_writeWord (s : State) (a v : Word) (h : s.mem.wf = true) : (s.writeWord a v).mem.wf = true := by
  unfold State.writeWord
  split
  · exact Memory.wf_write _ _ _ (Memory.wf_write _ _ _ h)
  · exact h

/-- A byte write leaves every other byte as it was, whatever the bus. -/
theorem State.read_writeByte_ne (s : State) (a b : Word) (v : Byte) (h : b ≠ a) :
    (s.writeByte a v).mem.read b = s.mem.read b := by
  unfold State.writeByte
  split
  · exact Memory.read_write_ne _ _ _ _ h
  · rfl

end Sys2Proof.Machine
end

