-- ==== Sys2Proof/Laws/Step.lean ====
section
/-! SUPPORT. What a step can do, said once: the fetch, and the cases of `step`. -/

namespace Sys2Proof.Machine

/-- The immediate fetches end in an instruction, and change `pc` and the calls made alone. -/
theorem fetchImmediates_cases (row : Row) (at1 : Word) (s : State) :
    ∃ i target calls, fetchImmediates row at1 s = .decoded i { s with pc := target, busLog := calls } := by
  cases row <;> exact ⟨_, _, _, rfl⟩

/-- What a fetch can end in: an instruction, `pc` and the calls made alone being changed, when the opcode has a row; or
a decode failure after the one opcode read. -/
theorem fetch_cases (s : State) :
    (∃ row i target calls, decodeOpcode s.cfg (s.busByte s.pc) = .ok row ∧
      fetch s = .decoded i { s with pc := target, busLog := calls }) ∨
    (∃ e, decodeOpcode s.cfg (s.busByte s.pc) = .error e ∧ fetch s = .failed (s.call (.readByte s.pc))) := by
  unfold fetch
  simp only [State.readByte]
  cases h : decodeOpcode s.cfg (s.busByte s.pc) with
  | error e => exact .inr ⟨e, rfl, rfl⟩
  | ok row =>
    obtain ⟨i, target, calls, hf⟩ := fetchImmediates_cases row (s.pc + 1) (s.call (.readByte s.pc))
    exact .inl ⟨row, i, target, calls, rfl, hf⟩

/-- What a step can do: run the instruction fetched, take the decode failure, change nothing in a terminal state, or
stop in EXPECTING_CBP. -/
theorem step_cases (s : State) :
    (s.st = .normal ∧ ∃ i s', fetch s = .decoded i s' ∧ step s = exec i s') ∨
    (s.st = .normal ∧ ∃ s', fetch s = .failed s' ∧ step s = .next s'.enterError) ∨
    (s.st ≠ .normal ∧ s.st ≠ .expectingCbp ∧ step s = .next s) ∨
    (s.st = .expectingCbp ∧ step s = .fault .expectingCbpHasNoStep) := by
  unfold step
  cases h : s.st with
  | normal =>
    cases hf : fetch s with
    | decoded i s' => exact .inl ⟨rfl, i, s', rfl, rfl⟩
    | failed s' => exact .inr (.inl ⟨rfl, s', rfl, rfl⟩)
  | halted => exact .inr (.inr (.inl ⟨by simp, by simp, rfl⟩))
  | terminated => exact .inr (.inr (.inl ⟨by simp, by simp, rfl⟩))
  | error => exact .inr (.inr (.inl ⟨by simp, by simp, rfl⟩))
  | expectingCbp => exact .inr (.inr (.inr ⟨rfl, rfl⟩))

end Sys2Proof.Machine
end

