-- ==== Sys2Proof/Tests/Slice0.lean ====
section
/-! SUPPORT. Tests. Words are written out from the encoding column of opcode_table.json; the expected results of the step
tests are the vectors of 95_test_vectors.md, cited by id. After them, for every statement that has hypotheses, a witness
that they can be met together. -/

namespace Sys2Proof.Machine.Tests

/-! ## WellFormed -/

/-- The one check of WellFormed: DAA is no instruction of a block without it (42_arith.md R137). -/
theorem test_wf_refuses_daa_where_unsupported : Instr.wf { Config.standard with daaMode := .unsupported } .daa = false := by
  decide
theorem test_wf_admits_daa_where_implemented : Instr.wf Config.standard .daa = true := by decide

/-! ## Decoding, one word of every row

The immediate is 0x5A for one byte, 0x1234 for two (low byte first, 30_encoding.md R75). -/

/-- The instruction the whole of `bs` decodes to, with the default parameters. -/
def decoded (bs : List Byte) : Option Instr :=
  match decode Config.standard bs with
  | .ok (i, []) => some i
  | _ => none

theorem test_decode_line_0x :
    List.map decoded [
      [0b00000000#8], [0b00000001#8, 0x34#8, 0x12#8], [0b00000010#8], [0b00000011#8], [0b00000100#8],
      [0b00000101#8], [0b00000110#8, 0x5A#8], [0b00000111#8], [0b00001001#8], [0b00001010#8], [0b00001011#8],
      [0b00001100#8], [0b00001101#8], [0b00001110#8, 0x5A#8], [0b00001111#8]] =
    List.map some ([
      .nop, .ld_BC_nn 0x1234#16, .ld_mBC_A, .inc_BC, .inc_B, .dec_B, .ld_B_n 0x5A#8, .rlca, .add_HL_BC, .ld_A_mBC,
      .dec_BC, .inc_C, .dec_C, .ld_C_n 0x5A#8, .rrca] : List Instr) := by
  decide

theorem test_decode_line_1x :
    List.map decoded [
      [0b00010000#8, 0x5A#8], [0b00010001#8, 0x34#8, 0x12#8], [0b00010010#8], [0b00010011#8], [0b00010100#8],
      [0b00010101#8], [0b00010110#8, 0x5A#8], [0b00010111#8], [0b00011000#8, 0x5A#8], [0b00011001#8],
      [0b00011010#8], [0b00011011#8], [0b00011100#8], [0b00011101#8], [0b00011110#8, 0x5A#8], [0b00011111#8]] =
    List.map some ([
      .stop, .ld_DE_nn 0x1234#16, .ld_mDE_A, .inc_DE, .inc_D, .dec_D, .ld_D_n 0x5A#8, .rla, .jr_d 0x5A#8,
      .add_HL_DE, .ld_A_mDE, .dec_DE, .inc_E, .dec_E, .ld_E_n 0x5A#8, .rra] : List Instr) := by
  decide

theorem test_decode_line_2x :
    List.map decoded [
      [0b00100000#8, 0x5A#8], [0b00100001#8, 0x34#8, 0x12#8], [0b00100010#8], [0b00100011#8], [0b00100100#8],
      [0b00100101#8], [0b00100110#8, 0x5A#8], [0b00100111#8], [0b00101000#8, 0x5A#8], [0b00101001#8],
      [0b00101010#8], [0b00101011#8], [0b00101100#8], [0b00101101#8], [0b00101110#8, 0x5A#8]] =
    List.map some ([
      .jr_NZ_d 0x5A#8, .ld_HL_nn 0x1234#16, .ldi_mHL_A, .inc_HL, .inc_H, .dec_H, .ld_H_n 0x5A#8, .daa,
      .jr_Z_d 0x5A#8, .add_HL_HL, .ldi_A_mHL, .dec_HL, .inc_L, .dec_L, .ld_L_n 0x5A#8] : List Instr) := by
  decide

theorem test_decode_line_3x :
    List.map decoded [
      [0b00110000#8, 0x5A#8], [0b00110001#8, 0x34#8, 0x12#8], [0b00110010#8], [0b00110011#8], [0b00110100#8],
      [0b00110101#8], [0b00110110#8, 0x5A#8], [0b00110111#8], [0b00111000#8, 0x5A#8], [0b00111001#8],
      [0b00111010#8], [0b00111011#8], [0b00111100#8], [0b00111101#8], [0b00111110#8, 0x5A#8], [0b00111111#8]] =
    List.map some ([
      .jr_NC_d 0x5A#8, .ld_SP_nn 0x1234#16, .ldd_mHL_A, .inc_SP, .inc_mHL, .dec_mHL, .ld_mHL_n 0x5A#8, .scf,
      .jr_C_d 0x5A#8, .add_HL_SP, .ldd_A_mHL, .dec_SP, .inc_A, .dec_A, .ld_A_n 0x5A#8, .ccf] : List Instr) := by
  decide

theorem test_decode_line_4x :
    List.map decoded [
      [0b01000000#8], [0b01000001#8], [0b01000010#8], [0b01000011#8], [0b01000100#8], [0b01000101#8],
      [0b01000110#8], [0b01000111#8], [0b01001000#8], [0b01001001#8], [0b01001010#8], [0b01001011#8],
      [0b01001100#8], [0b01001101#8], [0b01001110#8], [0b01001111#8]] =
    List.map some ([
      .ld_B_B, .ld_B_C, .ld_B_D, .ld_B_E, .ld_B_H, .ld_B_L, .ld_B_mHL, .ld_B_A, .ld_C_B, .ld_C_C, .ld_C_D, .ld_C_E,
      .ld_C_H, .ld_C_L, .ld_C_mHL, .ld_C_A] : List Instr) := by
  decide

theorem test_decode_line_5x :
    List.map decoded [
      [0b01010000#8], [0b01010001#8], [0b01010010#8], [0b01010011#8], [0b01010100#8], [0b01010101#8],
      [0b01010110#8], [0b01010111#8], [0b01011000#8], [0b01011001#8], [0b01011010#8], [0b01011011#8],
      [0b01011100#8], [0b01011101#8], [0b01011110#8], [0b01011111#8]] =
    List.map some ([
      .ld_D_B, .ld_D_C, .ld_D_D, .ld_D_E, .ld_D_H, .ld_D_L, .ld_D_mHL, .ld_D_A, .ld_E_B, .ld_E_C, .ld_E_D, .ld_E_E,
      .ld_E_H, .ld_E_L, .ld_E_mHL, .ld_E_A] : List Instr) := by
  decide

theorem test_decode_line_6x :
    List.map decoded [
      [0b01100000#8], [0b01100001#8], [0b01100010#8], [0b01100011#8], [0b01100100#8], [0b01100101#8],
      [0b01100110#8], [0b01100111#8], [0b01101000#8], [0b01101001#8], [0b01101010#8], [0b01101011#8],
      [0b01101100#8], [0b01101101#8], [0b01101110#8], [0b01101111#8]] =
    List.map some ([
      .ld_H_B, .ld_H_C, .ld_H_D, .ld_H_E, .ld_H_H, .ld_H_L, .ld_H_mHL, .ld_H_A, .ld_L_B, .ld_L_C, .ld_L_D, .ld_L_E,
      .ld_L_H, .ld_L_L, .ld_L_mHL, .ld_L_A] : List Instr) := by
  decide

theorem test_decode_line_7x :
    List.map decoded [
      [0b01110000#8], [0b01110001#8], [0b01110010#8], [0b01110011#8], [0b01110100#8], [0b01110101#8],
      [0b01110110#8], [0b01110111#8], [0b01111000#8], [0b01111001#8], [0b01111010#8], [0b01111011#8],
      [0b01111100#8], [0b01111101#8], [0b01111110#8], [0b01111111#8]] =
    List.map some ([
      .ld_mHL_B, .ld_mHL_C, .ld_mHL_D, .ld_mHL_E, .ld_mHL_H, .ld_mHL_L, .halt, .ld_mHL_A, .ld_A_B, .ld_A_C,
      .ld_A_D, .ld_A_E, .ld_A_H, .ld_A_L, .ld_A_mHL, .ld_A_A] : List Instr) := by
  decide

theorem test_decode_line_8x :
    List.map decoded [
      [0b10000000#8], [0b10000001#8], [0b10000010#8], [0b10000011#8], [0b10000100#8], [0b10000101#8],
      [0b10000110#8], [0b10000111#8], [0b10001000#8], [0b10001001#8], [0b10001010#8], [0b10001011#8],
      [0b10001100#8], [0b10001101#8], [0b10001110#8], [0b10001111#8]] =
    List.map some ([
      .add_A_B, .add_A_C, .add_A_D, .add_A_E, .add_A_H, .add_A_L, .add_A_mHL, .add_A_A, .adc_A_B, .adc_A_C,
      .adc_A_D, .adc_A_E, .adc_A_H, .adc_A_L, .adc_A_mHL, .adc_A_A] : List Instr) := by
  decide

theorem test_decode_line_9x :
    List.map decoded [
      [0b10010000#8], [0b10010001#8], [0b10010010#8], [0b10010011#8], [0b10010100#8], [0b10010101#8],
      [0b10010110#8], [0b10010111#8], [0b10011000#8], [0b10011001#8], [0b10011010#8], [0b10011011#8],
      [0b10011100#8], [0b10011101#8], [0b10011110#8], [0b10011111#8]] =
    List.map some ([
      .sub_B, .sub_C, .sub_D, .sub_E, .sub_H, .sub_L, .sub_mHL, .sub_A, .sbc_A_B, .sbc_A_C, .sbc_A_D, .sbc_A_E,
      .sbc_A_H, .sbc_A_L, .sbc_A_mHL, .sbc_A_A] : List Instr) := by
  decide

theorem test_decode_line_Ax :
    List.map decoded [
      [0b10100000#8], [0b10100001#8], [0b10100010#8], [0b10100011#8], [0b10100100#8], [0b10100101#8],
      [0b10100110#8], [0b10100111#8]] =
    List.map some ([
      .and_B, .and_C, .and_D, .and_E, .and_H, .and_L, .and_mHL, .and_A] : List Instr) := by
  decide

/-- The dashes of the map of 30_encoding.md R83, and what is rejected by name (R85, R86). -/
theorem test_decode_rejects :
    List.map decoded [[0x08#8, 0x34#8, 0x12#8], [0x2F#8], [0xA8#8], [0xC3#8], [0xCB#8, 0x37#8], [0xFF#8]] =
    List.replicate 6 none := by
  decide
theorem test_decode_rejects_daa_where_unsupported :
    decode { Config.standard with daaMode := .unsupported } [0x27#8] = .error .daaUnsupported := by decide
theorem test_decode_stop_of_one_byte :
    decode { Config.standard with stopLength := .one } [0x10#8, 0x3C#8] = .ok (.stop, [0x3C#8]) := by decide
theorem test_decode_truncated : decode Config.standard [0x21#8, 0x34#8] = .error .truncated := by decide
theorem test_table_word :
    decodeTableWord 8 0x9E = some .sbc_A_mHL ∧ decodeTableWord 16 0xFE18 = some (.jr_d 0xFE#8) ∧
    decodeTableWord 24 0x123421 = some (.ld_HL_nn 0x1234#16) ∧ decodeTableWord 8 0xCB = none := by
  decide

/-! ## One step: the vectors of 95_test_vectors.md -/

/-- The start state of the vectors: the reset state with `pc` = 0x0100. -/
def start : State := { State.reset with pc := 0x0100#16 }

/-- `s` with `HL` = `hl`. -/
def withHL (s : State) (hl : Word) : State := s.setPair .hl hl

/-- The flags `Z N H C`. -/
def flags (z n h c : Nat) : Flags := { z := z == 1, n := n == 1, h := h == 1, c := c == 1 }

/-- What `look` sees of the state after one step from `s` with `bytes` at `pc`. -/
def after {α : Type} (bytes : List Byte) (s : State) (look : State → α) : Option α :=
  match step { s with mem := Memory.place s.mem s.pc bytes } with
  | .next t => some (look t)
  | _ => none

/-! ### Loads -/

/-- V1. -/
theorem test_ld_r_n :
    after [0x06#8, 0x7F#8] start (fun t => (t.b, t.pc, t.cyc)) =
    some (0x7F#8, 0x0102#16, 2) := by decide
/-- V2. -/
theorem test_ld_r_n_wraps :
    after [0x3E#8] { start with pc := 0xFFFF#16, mem := [(0, 0x99#8)] } (fun t => (t.a, t.pc, t.busLog)) =
    some (0x99#8, 0x0001#16, [.readByte 0x0000#16, .readByte 0xFFFF#16]) := by decide
/-- V3. -/
theorem test_ld_mHL_n :
    after [0x36#8, 0xAB#8] (withHL start 0xC000#16) (fun t => (t.mem.read 0xC000#16, t.cyc, t.busLog.head?)) =
    some (0xAB#8, 3, some (.writeByte 0xAB#8 0xC000#16)) := by decide
/-- V4. -/
theorem test_ld_SP_nn :
    after [0x31#8, 0xFE#8, 0xFF#8] start (fun t => (t.sp, t.pc, t.cyc)) =
    some (0xFFFE#16, 0x0103#16, 3) := by decide
/-- V5. -/
theorem test_ld_HL_nn :
    after [0x21#8, 0x34#8, 0x12#8] start (fun t => (t.h, t.l, t.busLog.length)) =
    some (0x12#8, 0x34#8, 3) := by decide
/-- V6. -/
theorem test_ld_r_r :
    after [0x57#8] { start with a := 0x9C#8 } (fun t => (t.d, t.pc, t.cyc)) =
    some (0x9C#8, 0x0101#16, 1) := by decide
/-- V8. -/
theorem test_ld_r_mHL :
    after [0x5E#8] (withHL { start with mem := [(0x2000, 0x5A#8)] } 0x2000#16) (fun t => (t.e, t.cyc, t.busLog)) =
    some (0x5A#8, 2, [.readByte 0x2000#16, .readByte 0x0100#16]) := by decide
/-- V10. -/
theorem test_ld_H_mHL_address_first :
    after [0x66#8] (withHL { start with mem := [(0x1234, 0x80#8)] } 0x1234#16) (fun t => (t.h, t.l)) =
    some (0x80#8, 0x34#8) := by decide
/-- V9. -/
theorem test_ld_mHL_H :
    after [0x74#8] (withHL start 0x1234#16) (fun t => (t.mem.read 0x1234#16, t.cyc)) =
    some (0x12#8, 2) := by decide
/-- V11. -/
theorem test_ld_A_mDE :
    after [0x1A#8] { start with d := 0x30#8, mem := [(0x3000, 0x77#8)] } (fun t => (t.a, t.cyc)) =
    some (0x77#8, 2) := by decide
/-- V12. -/
theorem test_ld_mBC_A :
    after [0x02#8] { start with b := 0x40#8, a := 0x66#8 } (fun t => (t.mem.read 0x4000#16, t.cyc)) =
    some (0x66#8, 2) := by decide
/-- S7. -/
theorem test_ldi_mHL_A :
    after [0x22#8] (withHL { start with a := 0x5C#8 } 0x1000#16)
      (fun t => (t.mem.read 0x1000#16, t.pair .hl, t.cyc)) =
    some (0x5C#8, 0x1001#16, 2) := by decide
/-- V16. -/
theorem test_ldi_keeps_flags :
    after [0x22#8] (withHL { start with f := flags 1 1 1 1 } 0x1000#16) (fun t => t.f) =
    some (flags 1 1 1 1) := by decide
/-- S8. -/
theorem test_ldd_mHL_A :
    after [0x32#8] (withHL { start with a := 0x5C#8 } 0x1000#16) (fun t => (t.mem.read 0x1000#16, t.pair .hl)) =
    some (0x5C#8, 0x0FFF#16) := by decide
/-- V14. -/
theorem test_ldd_mHL_A_wraps :
    after [0x32#8] (withHL { start with a := 0x55#8 } 0x0000#16) (fun t => (t.mem.read 0x0000#16, t.pair .hl)) =
    some (0x55#8, 0xFFFF#16) := by decide
/-- V13. -/
theorem test_ldi_A_mHL_wraps :
    after [0x2A#8] (withHL { start with mem := [(0xFFFF, 0x12#8)] } 0xFFFF#16) (fun t => (t.a, t.pair .hl)) =
    some (0x12#8, 0x0000#16) := by decide
/-- V15. -/
theorem test_ldd_A_mHL :
    after [0x3A#8] (withHL { start with mem := [(0x2001, 0xA5#8)] } 0x2001#16) (fun t => (t.a, t.pair .hl)) =
    some (0xA5#8, 0x2000#16) := by decide
/-! ### Increment and decrement -/

/-- V20. -/
theorem test_inc_A_wraps :
    after [0x3C#8] { start with a := 0xFF#8, f := flags 0 0 0 1 } (fun t => (t.a, t.f, t.cyc)) =
    some (0x00#8, flags 1 0 1 1, 1) := by decide
/-- V21. -/
theorem test_inc_A_half_carry :
    after [0x3C#8] { start with a := 0x0F#8 } (fun t => (t.a, t.f)) =
    some (0x10#8, flags 0 0 1 0) := by decide
/-- V22. -/
theorem test_inc_L_no_carry_into_H :
    after [0x2C#8] (withHL start 0x12FF#16) (fun t => (t.pair .hl, t.f)) =
    some (0x1200#16, flags 1 0 1 0) := by decide
/-- V23. -/
theorem test_dec_B_to_zero :
    after [0x05#8] { start with b := 0x01#8 } (fun t => (t.b, t.f)) =
    some (0x00#8, flags 1 1 0 0) := by decide
/-- V24. -/
theorem test_dec_B_wraps :
    after [0x05#8] { start with b := 0x00#8 } (fun t => (t.b, t.f)) =
    some (0xFF#8, flags 0 1 1 0) := by decide
/-- V26. -/
theorem test_inc_mHL :
    after [0x34#8] (withHL { start with mem := [(0x8000, 0xFF#8)] } 0x8000#16)
      (fun t => (t.mem.read 0x8000#16, t.f, t.busLog)) =
    some (0x00#8, flags 1 0 1 0, [.writeByte 0x00#8 0x8000#16, .readByte 0x8000#16, .readByte 0x0100#16]) := by decide
/-- V27. -/
theorem test_dec_mHL :
    after [0x35#8] (withHL { start with f := flags 0 0 0 1 } 0x8000#16)
      (fun t => (t.mem.read 0x8000#16, t.f, t.cyc)) =
    some (0xFF#8, flags 0 1 1 1, 3) := by decide
/-- V28. -/
theorem test_inc_BC_wraps :
    after [0x03#8] { start with b := 0xFF#8, c := 0xFF#8, f := flags 1 1 1 1 } (fun t => (t.pair .bc, t.f, t.cyc)) =
    some (0x0000#16, flags 1 1 1 1, 2) := by decide
/-- V29. -/
theorem test_dec_SP_wraps :
    after [0x3B#8] start (fun t => (t.sp, t.cyc)) =
    some (0xFFFF#16, 2) := by decide
/-- V30. -/
theorem test_dec_DE_borrows :
    after [0x1B#8] { start with d := 0x01#8 } (fun t => t.pair .de) =
    some 0x00FF#16 := by decide
/-! ### Arithmetic and logic -/

/-- V40. -/
theorem test_add_HL_BC :
    after [0x09#8] (withHL { start with b := 0x06#8, c := 0x05#8 } 0x8A23#16) (fun t => (t.pair .hl, t.f, t.cyc)) =
    some (0x9028#16, flags 0 0 1 0, 2) := by decide
/-- V41. -/
theorem test_add_HL_HL_keeps_Z :
    after [0x29#8] (withHL { start with f := flags 1 0 0 0 } 0x8000#16) (fun t => (t.pair .hl, t.f)) =
    some (0x0000#16, flags 1 0 0 1) := by decide
/-- V42. -/
theorem test_add_HL_SP :
    after [0x39#8] (withHL { start with sp := 0x0001#16 } 0x0FFF#16) (fun t => (t.pair .hl, t.f)) =
    some (0x1000#16, flags 0 0 1 0) := by decide
/-- V43. -/
theorem test_add_HL_DE_no_half_carry :
    after [0x19#8] (withHL { start with e := 0x01#8 } 0x00FF#16) (fun t => (t.pair .hl, t.f)) =
    some (0x0100#16, flags 0 0 0 0) := by decide
/-- S1. -/
theorem test_add_A_B :
    after [0x80#8] { start with a := 0x01#8, b := 0x01#8 } (fun t => (t.a, t.f, t.cyc)) =
    some (0x02#8, flags 0 0 0 0, 1) := by decide
/-- S2. -/
theorem test_add_A_B_overflows :
    after [0x80#8] { start with a := 0xFF#8, b := 0x01#8 } (fun t => (t.a, t.f)) =
    some (0x00#8, flags 1 0 1 1) := by decide
/-- V44. -/
theorem test_add_A_mHL :
    after [0x86#8] (withHL { start with a := 0x3A#8, mem := [(0x5000, 0xC6#8)] } 0x5000#16)
      (fun t => (t.a, t.f, t.cyc)) =
    some (0x00#8, flags 1 0 1 1, 2) := by decide
/-- V46. -/
theorem test_adc_A_B_half_carry :
    after [0x88#8] { start with a := 0x0F#8, f := flags 0 0 0 1 } (fun t => (t.a, t.f)) =
    some (0x10#8, flags 0 0 1 0) := by decide
/-- V48. -/
theorem test_adc_A_B_full :
    after [0x88#8] { start with a := 0xFF#8, b := 0xFF#8, f := flags 0 0 0 1 } (fun t => (t.a, t.f)) =
    some (0xFF#8, flags 0 0 1 1) := by decide
/-- V109. -/
theorem test_adc_A_A :
    after [0x8F#8] { start with a := 0x80#8, f := flags 0 0 0 1 } (fun t => (t.a, t.f)) =
    some (0x01#8, flags 0 0 0 1) := by decide
/-- V49. -/
theorem test_sub_C_borrows :
    after [0x91#8] { start with c := 0x01#8 } (fun t => (t.a, t.f)) =
    some (0xFF#8, flags 0 1 1 1) := by decide
/-- V50. -/
theorem test_sub_E_to_zero :
    after [0x93#8] { start with a := 0x3E#8, e := 0x3E#8 } (fun t => (t.a, t.f)) =
    some (0x00#8, flags 1 1 0 0) := by decide
/-- V51. -/
theorem test_sbc_A_A :
    after [0x9F#8] { start with a := 0x42#8, f := flags 0 0 0 1 } (fun t => (t.a, t.f)) =
    some (0xFF#8, flags 0 1 1 1) := by decide
/-- V52. -/
theorem test_sbc_A_D :
    after [0x9A#8] { start with a := 0x10#8, d := 0x0F#8, f := flags 0 0 0 1 } (fun t => (t.a, t.f)) =
    some (0x00#8, flags 1 1 1 0) := by decide
/-- V53. -/
theorem test_sbc_A_H :
    after [0x9C#8] { start with a := 0x3B#8, h := 0x2A#8, f := flags 0 0 0 1 } (fun t => (t.a, t.f)) =
    some (0x10#8, flags 0 1 0 0) := by decide
/-- V54. -/
theorem test_and_mHL_bitwise :
    after [0xA6#8] (withHL { start with a := 0xF0#8, mem := [(0x6000, 0x0F#8)], f := flags 0 0 0 1 } 0x6000#16)
      (fun t => (t.a, t.f, t.cyc)) =
    some (0x00#8, flags 1 0 1 0, 2) := by decide
/-- V56. -/
theorem test_and_L :
    after [0xA5#8] { start with a := 0x5A#8, l := 0x3F#8 } (fun t => (t.a, t.f)) =
    some (0x1A#8, flags 0 0 1 0) := by decide
/-- V57. -/
theorem test_daa_after_add :
    after [0x27#8] { start with a := 0x9A#8 } (fun t => (t.a, t.f, t.cyc)) =
    some (0x00#8, flags 1 0 0 1, 1) := by decide
/-- V60. -/
theorem test_daa_after_sub :
    after [0x27#8] { start with a := 0xDD#8, f := flags 0 1 1 1 } (fun t => (t.a, t.f)) =
    some (0x77#8, flags 0 1 0 1) := by decide
/-- V61. -/
theorem test_daa_unsupported :
    after [0x27#8] { start with a := 0x9A#8, cfg := { Config.standard with daaMode := .unsupported } }
      (fun t => (t.st, t.pc, t.a)) =
    some (.error, 0x0100#16, 0x9A#8) := by decide
/-! ### Rotates -/

/-- S3. -/
theorem test_rlca :
    after [0x07#8] { start with a := 0x80#8 } (fun t => (t.a, t.f)) =
    some (0x01#8, flags 0 0 0 1) := by decide
/-- V70. -/
theorem test_rrca :
    after [0x0F#8] { start with a := 0x01#8 } (fun t => (t.a, t.f)) =
    some (0x80#8, flags 0 0 0 1) := by decide
/-- V74. -/
theorem test_rrca_keeps_Z :
    after [0x0F#8] { start with f := flags 1 1 1 1 } (fun t => (t.a, t.f)) =
    some (0x00#8, flags 1 0 0 0) := by decide
/-- V71. -/
theorem test_rla_does_not_set_Z :
    after [0x17#8] { start with a := 0x80#8 } (fun t => (t.a, t.f)) =
    some (0x00#8, flags 0 0 0 1) := by decide
/-- V72. -/
theorem test_rla :
    after [0x17#8] { start with a := 0x55#8, f := flags 0 0 0 1 } (fun t => (t.a, t.f)) =
    some (0xAB#8, flags 0 0 0 0) := by decide
/-- V73. -/
theorem test_rra :
    after [0x1F#8] { start with a := 0x01#8, f := flags 0 0 0 1 } (fun t => (t.a, t.f)) =
    some (0x80#8, flags 0 0 0 1) := by decide
/-! ### Jumps -/

/-- V81. -/
theorem test_jr_to_itself :
    after [0x18#8, 0xFE#8] start (fun t => (t.pc, t.cyc)) =
    some (0x0100#16, 3) := by decide
/-- V83. -/
theorem test_jr_backward_wraps :
    after [0x18#8, 0x80#8] { start with pc := 0x0000#16 } (fun t => t.pc) =
    some 0xFF82#16 := by decide
/-- S5. -/
theorem test_jr_NZ_not_taken :
    after [0x20#8, 0x05#8] { start with f := flags 1 0 0 0 } (fun t => (t.pc, t.cyc)) =
    some (0x0102#16, 2) := by decide
/-- S6. -/
theorem test_jr_NZ_taken :
    after [0x20#8, 0x05#8] start (fun t => (t.pc, t.cyc)) =
    some (0x0107#16, 3) := by decide
/-- V84. -/
theorem test_jr_Z_taken :
    after [0x28#8, 0xF0#8] { start with f := flags 1 0 0 0 } (fun t => (t.pc, t.cyc)) =
    some (0x00F2#16, 3) := by decide
/-- V85. -/
theorem test_jr_C_taken :
    after [0x38#8, 0x10#8] { start with f := flags 0 0 0 1 } (fun t => (t.pc, t.cyc)) =
    some (0x0112#16, 3) := by decide
/-- V86. -/
theorem test_jr_NC_not_taken :
    after [0x30#8, 0x10#8] { start with f := flags 0 0 0 1 } (fun t => (t.pc, t.cyc)) =
    some (0x0102#16, 2) := by decide
/-- V87, by JR C. -/
theorem test_jr_C_historical_cost :
    after [0x38#8, 0x10#8] { start with f := flags 0 0 0 1, cfg := { Config.standard with jrCcCycles := .historical } }
      (fun t => (t.pc, t.cyc)) =
    some (0x0112#16, 2) := by decide
/-! ### Control -/

/-- V90. -/
theorem test_scf :
    after [0x37#8] { start with f := flags 1 1 1 0 } (fun t => (t.f, t.cyc)) =
    some (flags 1 0 0 1, 1) := by decide
/-- V91. -/
theorem test_ccf :
    after [0x3F#8] { start with f := flags 0 1 1 1 } (fun t => (t.f, t.cyc)) =
    some (flags 0 0 0 0, 1) := by decide
/-- V93. -/
theorem test_nop :
    after [0x00#8] { start with cyc := 10, pc := 0x0150#16 } (fun t => (t.pc, t.cyc)) =
    some (0x0151#16, 11) := by decide
/-- V94. -/
theorem test_stop :
    after [0x10#8, 0x00#8] start (fun t => (t.st, t.pc, t.cyc)) =
    some (.terminated, 0x0102#16, 1) := by decide
/-- V95. -/
theorem test_stop_of_one_byte :
    after [0x10#8, 0x00#8] { start with cfg := { Config.standard with stopLength := .one } }
      (fun t => (t.st, t.pc, t.busLog.length)) =
    some (.terminated, 0x0101#16, 1) := by decide
/-- V96. -/
theorem test_halt :
    after [0x76#8] start (fun t => (t.st, t.pc, t.cyc)) =
    some (.halted, 0x0101#16, 1) := by decide
/-! ### Decode failures, the state machine, the ports -/

/-- V100. -/
theorem test_decode_failure :
    after [0x08#8, 0x34#8, 0x12#8] { start with pc := 0x0200#16 } (fun t => (t.st, t.pc, t.busLog)) =
    some (.error, 0x0200#16, [.readByte 0x0200#16]) := by decide
/-- S10. -/
theorem test_halted_step_does_nothing :
    after [0x3C#8] { start with st := .halted } (fun t => (t.st, t.pc, t.a)) =
    some (.halted, 0x0100#16, 0x00#8) := by decide

/-- V105, V106. -/
theorem test_signal_error :
    start.signalError.st = .error ∧ { start with st := .halted }.signalError.st = .halted := by decide
/-- V107. -/
theorem test_reset_keeps_memory :
    let s := { start with st := .error, a := 0x42#8, cyc := 57, mem := [(0, 0x3C#8)] }.hostReset ResetValues.zero
    (s.st, s.a, s.cyc, s.pc, s.mem) = (.normal, 0x00#8, 0, 0x0000#16, [(0, 0x3C#8)]) := by decide
/-- V108. -/
theorem test_reset_with_values :
    let s := start.hostReset { ResetValues.zero with a := 0x01#8, pc := 0x0100#16, sp := 0xFFFE#16 }
    (s.a, s.pc, s.sp) = (0x01#8, 0x0100#16, 0xFFFE#16) := by decide
/-- S12. -/
theorem test_load_HL :
    let s := start.load (.pair .hl 0xBEEF#16)
    (s.pair .hl, s.h, s.l) = (0xBEEF#16, 0xBE#8, 0xEF#8) := by decide
/-- S13. -/
theorem test_write_word_wraps :
    let s := start.writeWord 0xFFFF#16 0x1234#16
    (s.mem.read 0xFFFF#16, s.mem.read 0x0000#16, (s.readWord 0xFFFF#16).1) = (0x34#8, 0x12#8, 0x1234#16) := by decide
/-- 10_state.md R27: Z is bit 0 and C bit 3 of the packed flags. -/
theorem test_packed_flags : (flags 1 0 0 0).packed = 0b0001#4 ∧ (flags 0 0 1 1).packed = 0b1100#4 := by decide
/-- Storing what an unlisted address reads as unlists it, so equal memories are equal data. -/
theorem test_memory_is_canonical :
    Memory.write [(0x10, 0x01#8), (0x20, 0x02#8)] 0x10#16 0x00#8 = [(0x20, 0x02#8)] ∧
    Memory.write (Memory.write [] 0x20#16 0x02#8) 0x10#16 0x01#8 = [(0x10, 0x01#8), (0x20, 0x02#8)] := by decide
/-- The word placed for the next step is the one that step runs: LD HL,0x1234 (V5). -/
theorem test_fetch_word :
    after [] (State.reset.withFetchWord 24 0x123421) (fun t => (t.pair .hl, t.pc)) = some (0x1234#16, 0x0003#16) := by decide

/-! ## Witnesses

For each statement with hypotheses, a state and operands that meet them all; where a statement has several clauses, one
for each, at a boundary of its range. -/

/-- A state with something in memory: LD HL,0x1234 at 0x0100. -/
def ready : State := { start with mem := [(0x0100, 0x21#8), (0x0101, 0x34#8), (0x0102, 0x12#8)] }

theorem witness_DecodeOfEncodeIsTheInstruction :
    Instr.wf Config.standard .daa = true ∧ Instr.wf { Config.standard with daaMode := .unsupported } .stop = true := by
  decide

/-- Both clauses: the bytes are the encoding; and the byte STOP ignores is not the one the encoder writes. -/
theorem witness_DecodedBytesAreTheEncoding :
    decode Config.standard [0x3E#8, 0xFF#8, 0x76#8] = .ok (.ld_A_n 0xFF#8, [0x76#8]) ∧
    decode Config.standard [0x10#8, 0xA5#8, 0x76#8] = .ok (.stop, [0x76#8]) := by
  decide

/-- Both sides of each boundary of the admitted set. -/
theorem witness_RejectedOpcodesAreExactlyThese :
    (decodeOpcode Config.standard 0xA7#8).isOk = true ∧ (decodeOpcode Config.standard 0xA8#8).isOk = false ∧
    (decodeOpcode Config.standard 0xFF#8).isOk = false ∧ (decodeOpcode Config.standard 0x08#8).isOk = false ∧
    (decodeOpcode Config.standard 0x2F#8).isOk = false ∧ (decodeOpcode Config.standard 0x27#8).isOk = true ∧
    (decodeOpcode { Config.standard with daaMode := .unsupported } 0x27#8).isOk = false := by
  decide

/-- One opcode with two different immediates and rests; and STOP, under one value of `STOP_LENGTH`. -/
theorem witness_LengthIsDecidedByTheOpcodeByte :
    decode Config.standard [0x21#8, 0x34#8, 0x12#8] = .ok (.ld_HL_nn 0x1234#16, []) ∧
    decode { Config.standard with daaMode := .unsupported } [0x21#8, 0xFF#8, 0xFF#8, 0x00#8] =
      .ok (.ld_HL_nn 0xFFFF#16, [0x00#8]) ∧
    decode { Config.standard with stopLength := .one } [0x10#8] = .ok (.stop, []) ∧
    decode { Config.standard with stopLength := .one } [0x10#8, 0x00#8] = .ok (.stop, [0x00#8]) := by
  decide

/-- Both clauses at their boundaries: 127 and 128 after the next-instruction address, 128 and 129 before it. -/
theorem witness_AssembledDisplacementReachesTheTarget :
    { start with pc := 0x0200#16 }.pc = 0x01FE#16 + 2 ∧
    displacementTo 0x01FE#16 0x027F#16 = some 0x7F#8 ∧ displacementTo 0x01FE#16 0x0280#16 = none ∧
    displacementTo 0x01FE#16 0x0180#16 = some 0x80#8 ∧ displacementTo 0x01FE#16 0x017F#16 = none := by
  decide

/-- The second instruction straddles 0xFFFF. -/
theorem witness_StepRunsTheDecodedInstruction :
    (ready.st = .normal ∧ ready.cfg.bus = .flatRam ∧
      decode ready.cfg [ready.mem.read ready.pc, ready.mem.read (ready.pc + 1), ready.mem.read (ready.pc + 2)] =
        .ok (.ld_HL_nn 0x1234#16, [])) ∧
    (let s := { start with pc := 0xFFFF#16, mem := [(0, 0x99#8), (0xFFFF, 0x3E#8)] }
     s.st = .normal ∧ s.cfg.bus = .flatRam ∧
      decode s.cfg [s.mem.read s.pc, s.mem.read (s.pc + 1), s.mem.read (s.pc + 2)] = .ok (.ld_A_n 0x99#8, [0x00#8])) := by
  decide

theorem witness_StepFetchesInOrderOverAnyBus :
    ∃ (row : Row) (i : Instr) (rest : List Byte), ready.st = .normal ∧
      decodeOpcode ready.cfg (ready.busByte ready.pc) = .ok row ∧
      row.take [(ready.call (.readByte ready.pc)).busByte (ready.pc + 1),
        ((ready.call (.readByte ready.pc)).call (.readByte (ready.pc + 1))).busByte (ready.pc + 2)] = .ok (i, rest) :=
  ⟨.f2 .ld_HL_nn, .ld_HL_nn 0x1234#16, [], rfl, rfl, rfl⟩

theorem witness_DecodeFailureOnlyEntersError :
    let s := { start with mem := [(0x0100, 0xCB#8)] }
    ∃ e, s.st = .normal ∧ decodeOpcode s.cfg (s.busByte s.pc) = .error e := ⟨.notAdmitted 0xCB#8, rfl, rfl⟩

theorem witness_StepRequestInATerminalStateChangesNothing :
    { start with st := .halted }.st.terminal = true ∧ { start with st := .terminated }.st.terminal = true ∧
    { start with st := .error }.st.terminal = true := by
  decide

theorem witness_ExpectingCbpHasNoStepToTake : { start with st := .expectingCbp }.st = .expectingCbp := by decide

/-- An instruction is fetched; HALT and STOP are fetched; an opcode is rejected. -/
theorem witness_ProcessorStateTransitionTable :
    (∃ s', ready.st = .normal ∧ fetch ready = .decoded (.ld_HL_nn 0x1234#16) s') ∧
    (∃ s', fetch { start with mem := [(0x0100, 0x76#8)] } = .decoded .halt s') ∧
    (∃ s', fetch { start with mem := [(0x0100, 0x10#8)] } = .decoded .stop s') ∧
    (∃ s', fetch { start with mem := [(0x0100, 0x08#8)] } = .failed s') ∧
    { start with st := .halted }.st ≠ .normal ∧ { start with st := .error }.st.terminal = true ∧
    { start with st := .expectingCbp }.st = .expectingCbp :=
  ⟨⟨_, rfl, rfl⟩, ⟨_, rfl⟩, ⟨_, rfl⟩, ⟨_, rfl⟩, by decide, by decide, by decide⟩

/-- Each terminal state; the action may be any. -/
theorem witness_OnlyResetLeavesATerminalState :
    { ready with st := .halted }.st.terminal = true ∧ { ready with st := .terminated }.st.terminal = true ∧
    { ready with st := .error }.st.terminal = true := by
  decide

theorem witness_EveryStepKeepsTheInvariant : ready.Inv := ⟨by decide, by decide⟩
theorem witness_EveryHostActionKeepsTheInvariant : { ready with st := .terminated }.Inv := ⟨by decide, by decide⟩

theorem witness_RunChargesTheSumOfTheCosts : ∃ t, Sys2Proof.core.run 2 ready = .next t ∧ t.cyc = 4 := ⟨_, rfl, by decide⟩

/-- A register that is not read and not written; one that is written only; and, for the flags, the same. -/
theorem witness_RegistersNotReadDoNotMatter :
    Reg8.b ∉ Form.regsRead (Instr.form .rlca) ∧ Reg8.b ∉ Form.regsWritten (Instr.form .rlca) ∧
    Reg8.e ∉ Form.regsRead (Instr.form .ld_E_mHL) ∧ Reg8.e ∈ Form.regsWritten (Instr.form .ld_E_mHL) := by
  decide
theorem witness_FlagsNotReadDoNotMatter :
    FlagName.z ∉ Form.flagsRead (Instr.form .rla) ∧ FlagName.z ∉ Form.flagsWritten (Instr.form .rla) ∧
    FlagName.c ∉ Form.flagsRead (Instr.form .scf) ∧ FlagName.c ∈ Form.flagsWritten (Instr.form .scf) := by
  decide

/-- One instruction that stores, at the last address; one that does not. -/
theorem witness_StoredByteIsWhatTheNextReadSees :
    ready.mem.wf = true ∧ ready.cfg.bus = .flatRam ∧
    Form.store (withHL ready 0xFFFF#16) (Instr.form (.ld_mHL_n 0x01#8)) = some (0xFFFF#16, 0x01#8) ∧
    Form.store ready (Instr.form .add_A_mHL) = none := by
  decide

/-- The hypothesis of LoadImmediateIntoTheByteAtHL, StoreRegisterToTheByteAtHL, LoadAndStoreAThroughBCAndDE,
StoreAAndStepHL and IncrementAndDecrementTheByteAtHL. -/
theorem witness_MemoryIsCanonical : { start with mem := [(0, 0x01#8), (0xFFFF, 0xFF#8)] }.mem.wf = true := by decide

theorem witness_CopyRegisterToRegister : Reg8.b = Reg8.b := rfl

/-- Two digits at each end of their range, in both operands, after an addition and a subtraction, with the carry set. -/
theorem witness_DecimalAdjustCorrectsBcdArithmetic :
    isBcd { start with a := 0x99#8, b := 0x99#8, f := flags 0 0 0 1 }.a = true ∧
    isBcd ({ start with a := 0x99#8, b := 0x99#8, f := flags 0 0 0 1 }.reg .b) = true ∧
    isBcd { start with a := 0x00#8, b := 0x01#8 }.a = true ∧
    isBcd ({ start with a := 0x00#8, b := 0x01#8 }.reg .b) = true := by
  decide

theorem witness_DecimalAdjustFollowsItsTwoBranches :
    { start with f := flags 0 0 1 1 }.f.n = false ∧ { start with f := flags 0 1 1 1 }.f.n = true := by
  decide

/-- Each condition, met and not met. -/
theorem witness_ConditionalJumpFollowsItsFlag :
    (!(flags 0 0 0 0).z) = true ∧ (!(flags 1 0 0 0).z) = false ∧ (flags 1 0 0 0).z = true ∧ (flags 0 0 0 0).z = false ∧
    (!(flags 0 0 0 0).c) = true ∧ (!(flags 0 0 0 1).c) = false ∧ (flags 0 0 0 1).c = true ∧
    (flags 0 0 0 0).c = false := by
  decide

theorem witness_PairsAreViewsOfTheirRegisters : Reg8.a ≠ pairHigh .hl ∧ Reg8.a ≠ pairLow .hl := by decide

/-- The word straddles the end of memory. -/
theorem witness_WordWrittenReadsBackLittleEndian :
    ready.mem.wf = true ∧ ready.cfg.bus = .flatRam ∧ 0x0001#16 ≠ 0xFFFF#16 ∧ 0x0001#16 ≠ 0xFFFF#16 + 1 := by
  decide

theorem witness_SignalErrorOnlyMovesNormalToError :
    start.st = .normal ∧ { start with st := .expectingCbp }.st ≠ .normal := by
  decide


end Sys2Proof.Machine.Tests
end

section
/-! Proofs of the family 10_state.md: the register pairs (R22, R23). -/

namespace Sys2Proof.Machine

/-- The pair's value as a number (R22). -/
theorem State.toNat_pair (s : State) (p : RegPair) :
    (s.pair p).toNat = (s.reg (pairHigh p)).toNat * 256 + (s.reg (pairLow p)).toNat :=
  toNat_joinBytes _ _

theorem State.toNat_pairHigh_setPair (s : State) (p : RegPair) (v : Word) :
    ((s.setPair p v).reg (pairHigh p)).toNat = v.toNat / 256 := by
  rw [State.reg_setPair, if_pos rfl, toNat_highByte]

theorem State.toNat_pairLow_setPair (s : State) (p : RegPair) (v : Word) :
    ((s.setPair p v).reg (pairLow p)).toNat = v.toNat % 256 := by
  rw [State.reg_setPair, if_neg (pairHigh_ne_pairLow p).symm, if_pos rfl, toNat_lowByte]

theorem State.reg_setPair_ne (s : State) (p : RegPair) (v : Word) {r : Reg8} (hh : r ≠ pairHigh p)
    (hl : r ≠ pairLow p) : (s.setPair p v).reg r = s.reg r := by
  rw [State.reg_setPair, if_neg hh, if_neg hl]

/-- Writing the high register replaces the pair's high byte and keeps its low byte (R23). -/
theorem State.toNat_pair_setReg_pairHigh (s : State) (p : RegPair) (v : Byte) :
    ((s.setReg (pairHigh p) v).pair p).toNat = v.toNat * 256 + (s.pair p).toNat % 256 := by
  have hlow : (s.setReg (pairHigh p) v).reg (pairLow p) = s.reg (pairLow p) :=
    s.reg_setReg_ne v (pairHigh_ne_pairLow p).symm
  rw [State.toNat_pair, State.toNat_pair, State.reg_setReg_same, hlow]
  omega

/-- Writing the low register replaces the pair's low byte and keeps its high byte (R23). -/
theorem State.toNat_pair_setReg_pairLow (s : State) (p : RegPair) (v : Byte) :
    ((s.setReg (pairLow p) v).pair p).toNat = (s.pair p).toNat / 256 * 256 + v.toNat := by
  have hhigh : (s.setReg (pairLow p) v).reg (pairHigh p) = s.reg (pairHigh p) :=
    s.reg_setReg_ne v (pairHigh_ne_pairLow p)
  rw [State.toNat_pair, State.toNat_pair, State.reg_setReg_same, hhigh]
  omega

/-- Settles O54: each clause is the rule of that name for any pair, read at BC, DE and HL where the clause names them. -/
theorem pairsAreViewsOfTheirRegisters : Obligations.PairsAreViewsOfTheirRegisters := by
  intro s
  refine ⟨⟨s.toNat_pair .bc, s.toNat_pair .de, s.toNat_pair .hl⟩, fun v => ?_, fun p v => ?_, fun p v => ?_⟩
  · exact ⟨s.toNat_pairHigh_setPair .bc v, s.toNat_pairLow_setPair .bc v,
      s.toNat_pairHigh_setPair .de v, s.toNat_pairLow_setPair .de v,
      s.toNat_pairHigh_setPair .hl v, s.toNat_pairLow_setPair .hl v⟩
  · exact ⟨s.pair_setPair p v, fun _ hh hl => s.reg_setPair_ne p v hh hl⟩
  · exact ⟨s.toNat_pair_setReg_pairHigh p v, s.toNat_pair_setReg_pairLow p v⟩

end Sys2Proof.Machine
end

section
/-! Proofs of the family 20_memory.md: a word written over the flat RAM reads back (R53, R54). -/

namespace Sys2Proof.Machine

/-- The two bytes of a word lie at different addresses, at the end of memory too. -/
theorem address_ne_next (a : Word) : a ≠ a + 1 := by bv_omega

/-- Over the flat RAM a word read joins the byte at the address, low, and the byte after it, high (R53). -/
theorem State.busWord_flatRam (s : State) (a : Word) (h : s.cfg.bus = .flatRam) :
    s.busWord a = joinBytes (s.busByte (a + 1)) (s.busByte a) := by
  simp [State.busWord, State.busByte, h]

section
variable (s : State) (v a : Word) (hb : s.cfg.bus = .flatRam)
include hb

/-- Over the flat RAM a byte read after a word write is answered from the memory with the two bytes written. -/
theorem State.busByte_writeWord (b : Word) :
    (s.writeWord a v).busByte b = ((s.mem.write a (lowByte v)).write (a + 1) (highByte v)).read b := by
  rw [State.busByte_flatRam _ _ (by simpa using hb), State.writeWord_mem_flatRam _ _ _ hb]

/-- The second write, of the high byte, leaves the low byte at the address. -/
theorem State.busByte_writeWord_low (hm : s.mem.wf = true) : (s.writeWord a v).busByte a = lowByte v := by
  rw [s.busByte_writeWord v a hb, Memory.read_write_ne _ _ _ _ (address_ne_next a), Memory.read_write_same _ _ _ hm]

theorem State.busByte_writeWord_high (hm : s.mem.wf = true) : (s.writeWord a v).busByte (a + 1) = highByte v := by
  rw [s.busByte_writeWord v a hb, Memory.read_write_same _ _ _ (Memory.wf_write _ _ _ hm)]

theorem State.busByte_writeWord_ne {b : Word} (h : b ≠ a) (h' : b ≠ a + 1) :
    (s.writeWord a v).busByte b = s.busByte b := by
  rw [s.busByte_writeWord v a hb, Memory.read_write_ne _ _ _ _ h', Memory.read_write_ne _ _ _ _ h,
    State.busByte_flatRam _ _ hb]

theorem State.busWord_writeWord (hm : s.mem.wf = true) : (s.writeWord a v).busWord a = v := by
  rw [State.busWord_flatRam _ _ (by simpa using hb), s.busByte_writeWord_high v a hb hm,
    s.busByte_writeWord_low v a hb hm, joinBytes_high_low]

end

/-- Settles O55: the word is its two bytes joined, and each byte read after the write is the one written there, or the
one before the write elsewhere. -/
theorem wordWrittenReadsBackLittleEndian : Obligations.WordWrittenReadsBackLittleEndian := by
  intro s v a hm hb
  refine ⟨s.busWord_writeWord v a hb hm, ?_, ?_, fun b h h' => s.busByte_writeWord_ne v a hb h h'⟩
  · rw [State.readByte_fst, s.busByte_writeWord_low v a hb hm, toNat_lowByte]
  · rw [State.readByte_fst, s.busByte_writeWord_high v a hb hm, toNat_highByte]

end Sys2Proof.Machine
end

section
/-! Proofs of the family 41_inc_dec.md: INC and DEC of an 8-bit register undo each other (R126). -/

namespace Sys2Proof.Machine

/-! ## The byte arithmetic wraps at both ends, so each of the two steps undoes the other -/

@[simp] theorem decByte_incByte (v : Byte) : decByte (incByte v) = v := BitVec.add_sub_cancel v 1

@[simp] theorem incByte_decByte (v : Byte) : incByte (decByte v) = v := BitVec.sub_add_cancel v 1

/-! ## What INC r and DEC r leave in the register and in the flags (R120, R121) -/

@[simp] theorem inc8_reg (r : Reg8) (s : State) : (inc8 r s).reg r = incByte (s.reg r) := by simp [inc8]

@[simp] theorem inc8_f (r : Reg8) (s : State) : (inc8 r s).f = s.f.inc (s.reg r) := rfl

@[simp] theorem dec8_reg (r : Reg8) (s : State) : (dec8 r s).reg r = decByte (s.reg r) := by simp [dec8]

@[simp] theorem dec8_f (r : Reg8) (s : State) : (dec8 r s).f = s.f.dec (s.reg r) := rfl

theorem dec8_inc8_reg (r : Reg8) (s : State) : (dec8 r (inc8 r s)).reg r = s.reg r := by
  rw [dec8_reg, inc8_reg, decByte_incByte]

theorem inc8_dec8_reg (r : Reg8) (s : State) : (inc8 r (dec8 r s)).reg r = s.reg r := by
  rw [inc8_reg, dec8_reg, incByte_decByte]

/-- The second instruction computes Z from its own result, which is the byte the register started with. -/
theorem dec8_inc8_z (r : Reg8) (s : State) : (dec8 r (inc8 r s)).f.z = decide (s.reg r = 0) := by
  rw [dec8_f, Flags.dec, inc8_reg, decByte_incByte]

theorem inc8_dec8_z (r : Reg8) (s : State) : (inc8 r (dec8 r s)).f.z = decide (s.reg r = 0) := by
  rw [inc8_f, Flags.inc, dec8_reg, incByte_decByte]

/-- Settles O38: register and Z by the round trip of the byte; N and H are those the second instruction sets from the
state between the two. -/
theorem incThenDecRestoresTheRegister : Obligations.IncThenDecRestoresTheRegister := by
  intro r s
  constructor
  · exact ⟨inc8 r s, dec8 r (inc8 r s), exec_inc8 r s, exec_dec8 r _, dec8_inc8_reg r s, rfl, dec8_inc8_z r s, rfl⟩
  · exact ⟨dec8 r s, inc8 r (dec8 r s), exec_dec8 r s, exec_inc8 r _, inc8_dec8_reg r s, rfl, inc8_dec8_z r s, rfl⟩

end Sys2Proof.Machine
end

section
/-! Proofs of the family 43_rotate.md: eight circular rotates go once around A (R154). -/

namespace Sys2Proof.Machine

/-- Executing one instruction `n` times applies the state change of its form `n` times. -/
theorem repeatExec_eq_iterate (i : Instr) (n : Nat) (s : State) :
    repeatExec i n s = .next ((Form.run i.form)^[n] s) := by
  induction n generalizing s with
  | zero => rfl
  | succ n ih => simp only [repeatExec, exec_eq_run, ih, Function.iterate_succ_apply]

/-! ## The bits of A after one circular rotate (R150, R151) -/

/-- Bit 7 goes to bit 0 and every other bit up one place, which is seven places back around the byte. -/
theorem getLsbD_shiftInLow_highBit (a : Byte) {j : Nat} (hj : j < 8) :
    (shiftInLow a (highBit a)).getLsbD j = a.getLsbD ((j + 7) % 8) := by
  rw [shiftInLow, highBit, BitVec.getLsbD_append]
  cases j with
  | zero => simp
  | succ j =>
    have hback : (j + 1 + 7) % 8 = j := by omega
    have hj7 : j < 7 := by omega
    simp [hback, hj7]

/-- Bit 0 goes to bit 7 and every other bit down one place. -/
theorem getLsbD_shiftInHigh_lowBit (a : Byte) {j : Nat} (hj : j < 8) :
    (shiftInHigh a (lowBit a)).getLsbD j = a.getLsbD ((j + 1) % 8) := by
  rw [shiftInHigh, lowBit, BitVec.getLsbD_append]
  obtain rfl | hj7 : j = 7 ∨ j < 7 := by omega
  · simp
  · have hnext : (j + 1) % 8 = 1 + j := by omega
    simp [hnext, hj7]

/-! ## Repeated circular rotates -/

/-- The form moves every bit of A `m` places around the byte and leaves in C the bit `out` of the new A. -/
structure Form.RotatesCircularly (k : Form) (m out : Nat) : Prop where
  bit : ∀ (s : State) {j : Nat}, j < 8 → (Form.run k s).a.getLsbD j = s.a.getLsbD ((j + m) % 8)
  carry : ∀ s : State, (Form.run k s).f.c = (Form.run k s).a.getLsbD out

/-- RLCA: the carry is the old bit 7, which is the new bit 0 (R150). -/
theorem Form.rlca_rotatesCircularly : Form.RotatesCircularly .rlca 7 0 where
  bit s _ hj := getLsbD_shiftInLow_highBit s.a hj
  carry s := (getLsbD_shiftInLow_highBit s.a (j := 0) (by decide)).symm

/-- RRCA: the carry is the old bit 0, which is the new bit 7 (R151). -/
theorem Form.rrca_rotatesCircularly : Form.RotatesCircularly .rrca 1 7 where
  bit s _ hj := getLsbD_shiftInHigh_lowBit s.a hj
  carry s := (getLsbD_shiftInHigh_lowBit s.a (j := 7) (by decide)).symm

section
variable {k : Form} {m out : Nat} (hk : Form.RotatesCircularly k m out)
include hk

theorem Form.RotatesCircularly.getLsbD_iterate (n : Nat) (s : State) {j : Nat} (hj : j < 8) :
    ((Form.run k)^[n] s).a.getLsbD j = s.a.getLsbD ((j + m * n) % 8) := by
  induction n generalizing s with
  | zero => simp [Nat.mod_eq_of_lt hj]
  | succ n ih =>
    rw [Function.iterate_succ_apply, ih, hk.bit _ (Nat.mod_lt _ (by decide)), Nat.mod_add_mod,
      Nat.mul_succ, Nat.add_assoc]

/-- After eight rotates every bit has moved a whole number of times around the byte. -/
theorem Form.RotatesCircularly.iterate_eight_a (s : State) : ((Form.run k)^[8] s).a = s.a := by
  refine BitVec.eq_of_getLsbD_eq fun j hj => ?_
  rw [hk.getLsbD_iterate 8 s hj, Nat.add_mul_mod_self_right, Nat.mod_eq_of_lt hj]

/-- The carry comes from the last rotate, so it is a bit of the restored A. -/
theorem Form.RotatesCircularly.iterate_eight_carry (s : State) :
    ((Form.run k)^[8] s).f.c = s.a.getLsbD out := by
  rw [← hk.iterate_eight_a s, Function.iterate_succ_apply', hk.carry]

end

/-- Settles O47: A by the whole turn of its bits, C as the bit of the restored A that the last rotate moved around. -/
theorem eightCircularRotatesRestoreA : Obligations.EightCircularRotatesRestoreA := by
  intro s
  constructor
  · exact ⟨_, repeatExec_eq_iterate .rlca 8 s, Form.rlca_rotatesCircularly.iterate_eight_a s,
      Form.rlca_rotatesCircularly.iterate_eight_carry s⟩
  · exact ⟨_, repeatExec_eq_iterate .rrca 8 s, Form.rrca_rotatesCircularly.iterate_eight_a s,
      Form.rrca_rotatesCircularly.iterate_eight_carry s⟩

end Sys2Proof.Machine
end

section
/-! Proofs of the family 60_exceptions.md: the transition table of the processor state (R203, R208, R210 to R212). -/

namespace Sys2Proof.Machine

/-! ## `Step`, by the processor state and by what is fetched (R211, R212) -/

theorem RunState.terminal_iff (st : RunState) : st.terminal = true ↔ st ≠ .normal ∧ st ≠ .expectingCbp := by
  cases st <;> decide

theorem step_of_decoded {s s' : State} {i : Instr} (hn : s.st = .normal) (hf : fetch s = .decoded i s') :
    step s = .next (Form.run i.form s') := by
  simp only [step, hn, hf, exec_eq_run]

theorem step_of_failed {s s' : State} (hn : s.st = .normal) (hf : fetch s = .failed s') :
    step s = .next s'.enterError := by
  simp only [step, hn, hf]

theorem step_of_terminal {s : State} (h : s.st.terminal = true) : step s = .next s := by
  obtain ⟨hn, he⟩ := (RunState.terminal_iff s.st).mp h
  obtain ⟨hn', -⟩ | ⟨hn', -⟩ | ⟨-, -, hs⟩ | ⟨he', -⟩ := step_cases s
  · exact absurd hn' hn
  · exact absurd hn' hn
  · exact hs
  · exact absurd he' he

theorem step_of_expectingCbp {s : State} (h : s.st = .expectingCbp) : step s = .fault .expectingCbpHasNoStep := by
  simp only [step, h]

/-! ## The processor state an instruction leaves: only HALT and STOP write it -/

/-- Fetching an instruction moves `pc` and makes bus calls, nothing more. -/
theorem st_of_fetch_decoded {s s' : State} {i : Instr} (hf : fetch s = .decoded i s') : s'.st = s.st := by
  obtain ⟨_, j, target, calls, -, hd⟩ | ⟨_, -, hfail⟩ := fetch_cases s
  · obtain ⟨rfl, rfl⟩ : j = i ∧ { s with pc := target, busLog := calls } = s' := by simpa [hd] using hf
    rfl
  · simp [hfail] at hf

theorem Form.run_st_of_ne_halt_stop {i : Instr} (s : State) (hh : i ≠ .halt) (hs : i ≠ .stop) :
    (Form.run i.form s).st = s.st := by
  rw [Form.run_st]
  cases i with
  | halt => exact absurd rfl hh
  | stop => exact absurd rfl hs
  | _ => rfl

/-! ## `SignalError` and `Load` (R203, 10_state.md R47) -/

theorem State.signalError_of_normal {s : State} (h : s.st = .normal) : s.signalError = s.enterError := by
  simp only [State.signalError, h]

theorem State.signalError_of_ne_normal {s : State} (h : s.st ≠ .normal) : s.signalError = s := by
  cases hst : s.st with
  | normal => exact absurd hst h
  | _ => simp only [State.signalError, hst]

@[simp] theorem State.load_st (s : State) (k : LoadTarget) : (s.load k).st = s.st := by
  cases k <;> simp [State.load]

/-! ## The table -/

/-- The rows of `Step` that execute an instruction: HALT, STOP, and any other (R210). -/
theorem step_st_of_decoded {s s' : State} {i : Instr} (hn : s.st = .normal) (hf : fetch s = .decoded i s') :
    ∃ t, step s = .next t ∧ (i = .halt → t.st = .halted) ∧ (i = .stop → t.st = .terminated) ∧
      (i ≠ .halt → i ≠ .stop → t.st = .normal) := by
  refine ⟨_, step_of_decoded hn hf, ?_, ?_, fun hh hs => ?_⟩
  · rintro rfl
    exact Form.run_st .halt s'
  · rintro rfl
    exact Form.run_st .stop s'
  · rw [Form.run_st_of_ne_halt_stop s' hh hs, st_of_fetch_decoded hf, hn]

/-- Settles O13: one rule for each row of the table. -/
theorem processorStateTransitionTable : Obligations.ProcessorStateTransitionTable := by
  refine ⟨fun _ _ _ hn hf => step_st_of_decoded hn hf, fun _ s' hn hf => ?_, fun s hn => ?_,
    fun _ h => State.signalError_of_ne_normal h, fun s h t ht => ?_, fun s h t ht => ?_,
    State.hostReset_st, State.load_st⟩
  · exact ⟨s'.enterError, step_of_failed hn hf, s'.enterError_st⟩
  · rw [State.signalError_of_normal hn, State.enterError_st]
  · have hs : Host.Outcome.next s = .next t := (step_of_terminal h).symm.trans ht
    cases hs
    rfl
  · have hs : Host.Outcome.fault Fault.expectingCbpHasNoStep = .next t := (step_of_expectingCbp h).symm.trans ht
    cases hs

/-- Settles O14, action by action: a terminal state is not NORMAL, so neither a step nor `SignalError` moves it. -/
theorem onlyResetLeavesATerminalState : Obligations.OnlyResetLeavesATerminalState := by
  intro k s h
  cases k with
  | step => exact ⟨s, step_of_terminal h, rfl⟩
  | reset rv => exact ⟨s.hostReset rv, rfl, s.hostReset_st rv⟩
  | signalError =>
    have hsame : s.signalError = s := State.signalError_of_ne_normal ((RunState.terminal_iff s.st).mp h).1
    exact ⟨s.signalError, rfl, by rw [hsame]⟩
  | load t => exact ⟨s.load t, rfl, s.load_st t⟩

end Sys2Proof.Machine
end

section
/-! Proofs of the family 30_encoding.md: the decoder and the encoder undo each other (R71 to R83, R93). -/

namespace Sys2Proof.Laws

/-- The law of `OpcodeRow` for each row of the opcode table. -/
theorem opcodeRow : (i : Instr) → OpcodeRow.Statement i
  | .nop => OpcodeRow.nop
  | .ld_BC_nn nn => OpcodeRow.ld_BC_nn nn
  | .ld_mBC_A => OpcodeRow.ld_mBC_A
  | .inc_BC => OpcodeRow.inc_BC
  | .inc_B => OpcodeRow.inc_B
  | .dec_B => OpcodeRow.dec_B
  | .ld_B_n n => OpcodeRow.ld_B_n n
  | .rlca => OpcodeRow.rlca
  | .add_HL_BC => OpcodeRow.add_HL_BC
  | .ld_A_mBC => OpcodeRow.ld_A_mBC
  | .dec_BC => OpcodeRow.dec_BC
  | .inc_C => OpcodeRow.inc_C
  | .dec_C => OpcodeRow.dec_C
  | .ld_C_n n => OpcodeRow.ld_C_n n
  | .rrca => OpcodeRow.rrca
  | .stop => OpcodeRow.stop
  | .ld_DE_nn nn => OpcodeRow.ld_DE_nn nn
  | .ld_mDE_A => OpcodeRow.ld_mDE_A
  | .inc_DE => OpcodeRow.inc_DE
  | .inc_D => OpcodeRow.inc_D
  | .dec_D => OpcodeRow.dec_D
  | .ld_D_n n => OpcodeRow.ld_D_n n
  | .rla => OpcodeRow.rla
  | .jr_d d => OpcodeRow.jr_d d
  | .add_HL_DE => OpcodeRow.add_HL_DE
  | .ld_A_mDE => OpcodeRow.ld_A_mDE
  | .dec_DE => OpcodeRow.dec_DE
  | .inc_E => OpcodeRow.inc_E
  | .dec_E => OpcodeRow.dec_E
  | .ld_E_n n => OpcodeRow.ld_E_n n
  | .rra => OpcodeRow.rra
  | .jr_NZ_d d => OpcodeRow.jr_NZ_d d
  | .ld_HL_nn nn => OpcodeRow.ld_HL_nn nn
  | .ldi_mHL_A => OpcodeRow.ldi_mHL_A
  | .inc_HL => OpcodeRow.inc_HL
  | .inc_H => OpcodeRow.inc_H
  | .dec_H => OpcodeRow.dec_H
  | .ld_H_n n => OpcodeRow.ld_H_n n
  | .daa => OpcodeRow.daa
  | .jr_Z_d d => OpcodeRow.jr_Z_d d
  | .add_HL_HL => OpcodeRow.add_HL_HL
  | .ldi_A_mHL => OpcodeRow.ldi_A_mHL
  | .dec_HL => OpcodeRow.dec_HL
  | .inc_L => OpcodeRow.inc_L
  | .dec_L => OpcodeRow.dec_L
  | .ld_L_n n => OpcodeRow.ld_L_n n
  | .jr_NC_d d => OpcodeRow.jr_NC_d d
  | .ld_SP_nn nn => OpcodeRow.ld_SP_nn nn
  | .ldd_mHL_A => OpcodeRow.ldd_mHL_A
  | .inc_SP => OpcodeRow.inc_SP
  | .inc_mHL => OpcodeRow.inc_mHL
  | .dec_mHL => OpcodeRow.dec_mHL
  | .ld_mHL_n n => OpcodeRow.ld_mHL_n n
  | .scf => OpcodeRow.scf
  | .jr_C_d d => OpcodeRow.jr_C_d d
  | .add_HL_SP => OpcodeRow.add_HL_SP
  | .ldd_A_mHL => OpcodeRow.ldd_A_mHL
  | .dec_SP => OpcodeRow.dec_SP
  | .inc_A => OpcodeRow.inc_A
  | .dec_A => OpcodeRow.dec_A
  | .ld_A_n n => OpcodeRow.ld_A_n n
  | .ccf => OpcodeRow.ccf
  | .ld_B_B => OpcodeRow.ld_B_B
  | .ld_B_C => OpcodeRow.ld_B_C
  | .ld_B_D => OpcodeRow.ld_B_D
  | .ld_B_E => OpcodeRow.ld_B_E
  | .ld_B_H => OpcodeRow.ld_B_H
  | .ld_B_L => OpcodeRow.ld_B_L
  | .ld_B_mHL => OpcodeRow.ld_B_mHL
  | .ld_B_A => OpcodeRow.ld_B_A
  | .ld_C_B => OpcodeRow.ld_C_B
  | .ld_C_C => OpcodeRow.ld_C_C
  | .ld_C_D => OpcodeRow.ld_C_D
  | .ld_C_E => OpcodeRow.ld_C_E
  | .ld_C_H => OpcodeRow.ld_C_H
  | .ld_C_L => OpcodeRow.ld_C_L
  | .ld_C_mHL => OpcodeRow.ld_C_mHL
  | .ld_C_A => OpcodeRow.ld_C_A
  | .ld_D_B => OpcodeRow.ld_D_B
  | .ld_D_C => OpcodeRow.ld_D_C
  | .ld_D_D => OpcodeRow.ld_D_D
  | .ld_D_E => OpcodeRow.ld_D_E
  | .ld_D_H => OpcodeRow.ld_D_H
  | .ld_D_L => OpcodeRow.ld_D_L
  | .ld_D_mHL => OpcodeRow.ld_D_mHL
  | .ld_D_A => OpcodeRow.ld_D_A
  | .ld_E_B => OpcodeRow.ld_E_B
  | .ld_E_C => OpcodeRow.ld_E_C
  | .ld_E_D => OpcodeRow.ld_E_D
  | .ld_E_E => OpcodeRow.ld_E_E
  | .ld_E_H => OpcodeRow.ld_E_H
  | .ld_E_L => OpcodeRow.ld_E_L
  | .ld_E_mHL => OpcodeRow.ld_E_mHL
  | .ld_E_A => OpcodeRow.ld_E_A
  | .ld_H_B => OpcodeRow.ld_H_B
  | .ld_H_C => OpcodeRow.ld_H_C
  | .ld_H_D => OpcodeRow.ld_H_D
  | .ld_H_E => OpcodeRow.ld_H_E
  | .ld_H_H => OpcodeRow.ld_H_H
  | .ld_H_L => OpcodeRow.ld_H_L
  | .ld_H_mHL => OpcodeRow.ld_H_mHL
  | .ld_H_A => OpcodeRow.ld_H_A
  | .ld_L_B => OpcodeRow.ld_L_B
  | .ld_L_C => OpcodeRow.ld_L_C
  | .ld_L_D => OpcodeRow.ld_L_D
  | .ld_L_E => OpcodeRow.ld_L_E
  | .ld_L_H => OpcodeRow.ld_L_H
  | .ld_L_L => OpcodeRow.ld_L_L
  | .ld_L_mHL => OpcodeRow.ld_L_mHL
  | .ld_L_A => OpcodeRow.ld_L_A
  | .ld_mHL_B => OpcodeRow.ld_mHL_B
  | .ld_mHL_C => OpcodeRow.ld_mHL_C
  | .ld_mHL_D => OpcodeRow.ld_mHL_D
  | .ld_mHL_E => OpcodeRow.ld_mHL_E
  | .ld_mHL_H => OpcodeRow.ld_mHL_H
  | .ld_mHL_L => OpcodeRow.ld_mHL_L
  | .halt => OpcodeRow.halt
  | .ld_mHL_A => OpcodeRow.ld_mHL_A
  | .ld_A_B => OpcodeRow.ld_A_B
  | .ld_A_C => OpcodeRow.ld_A_C
  | .ld_A_D => OpcodeRow.ld_A_D
  | .ld_A_E => OpcodeRow.ld_A_E
  | .ld_A_H => OpcodeRow.ld_A_H
  | .ld_A_L => OpcodeRow.ld_A_L
  | .ld_A_mHL => OpcodeRow.ld_A_mHL
  | .ld_A_A => OpcodeRow.ld_A_A
  | .add_A_B => OpcodeRow.add_A_B
  | .add_A_C => OpcodeRow.add_A_C
  | .add_A_D => OpcodeRow.add_A_D
  | .add_A_E => OpcodeRow.add_A_E
  | .add_A_H => OpcodeRow.add_A_H
  | .add_A_L => OpcodeRow.add_A_L
  | .add_A_mHL => OpcodeRow.add_A_mHL
  | .add_A_A => OpcodeRow.add_A_A
  | .adc_A_B => OpcodeRow.adc_A_B
  | .adc_A_C => OpcodeRow.adc_A_C
  | .adc_A_D => OpcodeRow.adc_A_D
  | .adc_A_E => OpcodeRow.adc_A_E
  | .adc_A_H => OpcodeRow.adc_A_H
  | .adc_A_L => OpcodeRow.adc_A_L
  | .adc_A_mHL => OpcodeRow.adc_A_mHL
  | .adc_A_A => OpcodeRow.adc_A_A
  | .sub_B => OpcodeRow.sub_B
  | .sub_C => OpcodeRow.sub_C
  | .sub_D => OpcodeRow.sub_D
  | .sub_E => OpcodeRow.sub_E
  | .sub_H => OpcodeRow.sub_H
  | .sub_L => OpcodeRow.sub_L
  | .sub_mHL => OpcodeRow.sub_mHL
  | .sub_A => OpcodeRow.sub_A
  | .sbc_A_B => OpcodeRow.sbc_A_B
  | .sbc_A_C => OpcodeRow.sbc_A_C
  | .sbc_A_D => OpcodeRow.sbc_A_D
  | .sbc_A_E => OpcodeRow.sbc_A_E
  | .sbc_A_H => OpcodeRow.sbc_A_H
  | .sbc_A_L => OpcodeRow.sbc_A_L
  | .sbc_A_mHL => OpcodeRow.sbc_A_mHL
  | .sbc_A_A => OpcodeRow.sbc_A_A
  | .and_B => OpcodeRow.and_B
  | .and_C => OpcodeRow.and_C
  | .and_D => OpcodeRow.and_D
  | .and_E => OpcodeRow.and_E
  | .and_H => OpcodeRow.and_H
  | .and_L => OpcodeRow.and_L
  | .and_mHL => OpcodeRow.and_mHL
  | .and_A => OpcodeRow.and_A
end Sys2Proof.Laws

namespace Sys2Proof

/-- Settles O1: the opcode byte finds the row the encoder wrote, and the row takes its operands back. -/
theorem decodeOfEncodeIsTheInstruction : Obligations.DecodeOfEncodeIsTheInstruction := by
  intro c i rest h
  obtain ⟨op, operands, row, henc, hrow, -, htake⟩ := Laws.opcodeRow i c h
  rw [henc, List.cons_append, decode_cons_of_row _ _ _ _ hrow, htake]

/-! ## The opcode byte and its row -/

/-- The block has every instruction but DAA, and DAA where `DAA_MODE` = implemented (R84). -/
theorem Instr.wf_iff (c : Config) (i : Instr) : i.wf c = true ↔ ¬ (i = .daa ∧ c.daaMode = .unsupported) := by
  cases hmode : c.daaMode <;> simp [Instr.wf, hmode]

theorem decodeOpcode_ok_iff (c : Config) (op : Byte) (row : Row) :
    decodeOpcode c op = .ok row ↔ ¬ (op = 0x27#8 ∧ c.daaMode = .unsupported) ∧ opcodeMap c op = some row := by
  unfold decodeOpcode
  by_cases hdaa : op = 0x27#8 ∧ c.daaMode = .unsupported
  · simp [hdaa]
  · cases hmap : opcodeMap c op <;> simp [hdaa]

/-- What the map of R83 says of a row it has for `op`: its instruction, with any immediate, is encoded by `op` and that
immediate; for STOP's ignored byte, only that the row is STOP's and two bytes long. -/
def Row.EncodedBy (c : Config) (op : Byte) : Row → Prop
  | .f0 i => encode c i = [op]
  | .f1n make => ∀ n, encode c (make n) = [op, n]
  | .f1d make => ∀ d, encode c (make d) = [op, d]
  | .f1s i => i = .stop ∧ c.stopLength = .two ∧ op = 0x10#8
  | .f2 make => ∀ nn, encode c (make nn) = [op, immLow nn, immHigh nn]

/-- An opcode byte is its high nibble, the line of the map, and its low nibble, the place in the line. -/
theorem byte_eq_nibbles (op : Byte) {line : BitVec 4} (h : op.extractLsb' 4 4 = line) :
    op = line ++ op.extractLsb' 0 4 := by
  subst h
  refine BitVec.eq_of_getLsbD_eq fun j hj => ?_
  rw [BitVec.getLsbD_append]
  by_cases hlow : j < 4
  · simp [hlow]
  · have hhigh : j - 4 < 4 := by omega
    have hj' : 4 + (j - 4) = j := by omega
    simp [hlow, hhigh, hj']

/-- Line 1x holds the one row that depends on a parameter, STOP's. -/
theorem OpcodeMap.line1_encodedBy {c : Config} {x : BitVec 4} {row : Row} (h : line1 c x = some row) :
    row.EncodedBy c (0x1#4 ++ x) := by
  unfold line1 at h
  split at h
  case h_1 =>
    cases h
    cases hlen : c.stopLength <;> simp [stopRow, hlen, Row.EncodedBy, encode]
  all_goals
    cases h <;> simp only [Row.EncodedBy] <;> intros <;> rfl

/-- Line by line and place by place, the map holds what the encoder writes. -/
theorem opcodeMap_encodedBy {c : Config} {op : Byte} {row : Row} (h : opcodeMap c op = some row) :
    row.EncodedBy c op := by
  dsimp only [opcodeMap] at h
  split at h
  case h_2 hline =>
    rw [byte_eq_nibbles op hline]
    exact OpcodeMap.line1_encodedBy h
  case h_12 => cases h
  all_goals
    rename_i hline
    rw [byte_eq_nibbles op hline]
    generalize op.extractLsb' 0 4 = x at h
    simp only [OpcodeMap.line0, OpcodeMap.line2, OpcodeMap.line3, OpcodeMap.line4, OpcodeMap.line5, OpcodeMap.line6,
      OpcodeMap.line7, OpcodeMap.line8, OpcodeMap.line9, OpcodeMap.lineA] at h
    split at h <;> cases h <;> simp only [Row.EncodedBy] <;> intros <;> rfl

theorem immLow_imm16 (b1 b2 : Byte) : immLow (imm16 b1 b2) = b1 := Machine.lowByte_joinBytes b2 b1

theorem immHigh_imm16 (b1 b2 : Byte) : immHigh (imm16 b1 b2) = b2 := Machine.highByte_joinBytes b2 b1

/-- A row gives back what its encoding took in, but for the byte STOP ignores. -/
theorem Row.EncodedBy.bytes_eq {c : Config} {op : Byte} {row : Row} (hrow : row.EncodedBy c op) {more : List Byte}
    {i : Instr} {rest : List Byte} (h : row.take more = .ok (i, rest)) :
    op :: more = encode c i ++ rest ∨ (i = .stop ∧ c.stopLength = .two ∧ ∃ x, op :: more = 0x10#8 :: x :: rest) := by
  unfold Row.take at h
  split at h <;> cases h
  case h_1 => exact .inl (by rw [show encode c i = [op] from hrow]; rfl)
  case h_2 make n => exact .inl (by rw [hrow n]; rfl)
  case h_3 make d => exact .inl (by rw [hrow d]; rfl)
  case h_4 x =>
    obtain ⟨hi, hlen, hop⟩ := hrow
    exact .inr ⟨hi, hlen, x, by rw [hop]⟩
  case h_5 make b1 b2 => exact .inl (by rw [hrow (imm16 b1 b2), immLow_imm16, immHigh_imm16]; rfl)

/-- Settles O2: the bytes by the row's law; the instruction is not a DAA the block has not, since the opcode byte would
be 0x27 and have no row. -/
theorem decodedBytesAreTheEncoding : Obligations.DecodedBytesAreTheEncoding := by
  intro c bs i rest h
  obtain ⟨op, more, row, rfl, hop, htake⟩ := decode_ok c bs i rest h
  obtain ⟨hdaa, hmap⟩ := (decodeOpcode_ok_iff c op row).mp hop
  have hbytes := (opcodeMap_encodedBy hmap).bytes_eq htake
  refine ⟨(Instr.wf_iff c i).mpr ?_, hbytes⟩
  rintro ⟨rfl, hmode⟩
  obtain henc | ⟨hstop, -⟩ := hbytes
  · exact hdaa ⟨(List.cons.inj henc).1, hmode⟩
  · cases hstop

/-! ## The rejected opcode bytes (R85, R86) -/

theorem OpcodeMap.line1_congr (c c' : Config) {x : BitVec 4} (h : x ≠ 0x0#4) : line1 c x = line1 c' x := by
  unfold line1
  split
  case h_1 => exact absurd rfl h
  all_goals rfl

/-- Of the parameters the map reads `STOP_LENGTH` alone, and that for 0x10 alone. -/
theorem opcodeMap_congr {c c' : Config} {op : Byte} (h : op = 0x10#8 → c.stopLength = c'.stopLength) :
    opcodeMap c op = opcodeMap c' op := by
  dsimp only [opcodeMap]
  split
  case h_2 hline =>
    have hop := byte_eq_nibbles op hline
    by_cases hstop : op.extractLsb' 0 4 = 0x0#4
    · rw [hstop] at hop ⊢
      simp only [OpcodeMap.line1, stopRow, h hop]
    · exact OpcodeMap.line1_congr c c' hstop
  all_goals rfl

/-- The dashes of the map do not depend on the parameters: the row of 0x10 is there for both values of `STOP_LENGTH`. -/
theorem opcodeMap_eq_none_congr (c c' : Config) (op : Byte) : opcodeMap c op = none ↔ opcodeMap c' op = none := by
  by_cases hstop : op = 0x10#8
  · subst hstop
    simp [opcodeMap, OpcodeMap.line1]
  · rw [opcodeMap_congr fun h => absurd h hstop]

theorem opcodeMap_eq_none_iff (c : Config) (op : Byte) :
    opcodeMap c op = none ↔ op = 0x08#8 ∨ op = 0x2F#8 ∨ 0xA8 ≤ op.toNat := by
  rw [opcodeMap_eq_none_congr c .standard]
  revert op
  decide

theorem decodeOpcode_error_iff (c : Config) (op : Byte) :
    (∃ e, decodeOpcode c op = .error e) ↔ (op = 0x27#8 ∧ c.daaMode = .unsupported) ∨ opcodeMap c op = none := by
  unfold decodeOpcode
  by_cases hdaa : op = 0x27#8 ∧ c.daaMode = .unsupported
  · simp [hdaa]
  · cases hmap : opcodeMap c op <;> simp [hdaa]

/-- Settles O3: the dashes of the map, and 0x27 where the block has no DAA. -/
theorem rejectedOpcodesAreExactlyThese : Obligations.RejectedOpcodesAreExactlyThese := by
  intro c op
  constructor
  · rw [decodeOpcode_error_iff, opcodeMap_eq_none_iff]
    tauto
  · cases decodeOpcode c op <;> simp

/-! ## The length of an instruction (R70) -/

/-- A row takes its operand bytes off the front and leaves the rest. -/
theorem Row.take_eq_append {row : Row} {bs : List Byte} {i : Instr} {rest : List Byte} (h : row.take bs = .ok (i, rest)) :
    ∃ operands, bs = operands ++ rest ∧ row.length = operands.length + 1 := by
  unfold Row.take at h
  split at h <;> cases h
  · exact ⟨[], rfl, rfl⟩
  · exact ⟨[_], rfl, rfl⟩
  · exact ⟨[_], rfl, rfl⟩
  · exact ⟨[_], rfl, rfl⟩
  · exact ⟨[_, _], rfl, rfl⟩

theorem Row.length_le_three (row : Row) : row.length ≤ 3 := by
  cases row <;> simp [Row.length]

/-- Settles O4: the operands are those the row takes, and both lists are read by the same row. -/
theorem lengthIsDecidedByTheOpcodeByte : Obligations.LengthIsDecidedByTheOpcodeByte := by
  refine ⟨fun c bs i rest h => ?_, fun c c' op more more' i i' rest rest' h h' hlen => ?_⟩
  · obtain ⟨op, more, row, rfl, -, htake⟩ := decode_ok c bs i rest h
    obtain ⟨operands, rfl, hrow⟩ := Row.take_eq_append htake
    have hle := row.length_le_three
    exact ⟨op, operands, rfl, by omega⟩
  · obtain ⟨_, _, row, ⟨rfl, rfl⟩, hop, htake⟩ := decode_ok c _ i rest h
    obtain ⟨_, _, row', ⟨rfl, rfl⟩, hop', htake'⟩ := decode_ok c' _ i' rest' h'
    have hmap := ((decodeOpcode_ok_iff c op row).mp hop).2
    have hmap' := ((decodeOpcode_ok_iff c' op row').mp hop').2
    have hrow : row = row' := by simpa [hmap, hmap'] using opcodeMap_congr hlen
    have htaken := row.take_length more i rest htake
    have htaken' := row'.take_length more' i' rest' htake'
    rw [hrow] at htaken
    omega

/-! ## The admitted set (R84) -/

/-- An opcode byte is admitted where it is not one of the rejected ones. -/
theorem decodeOpcode_isOk (c : Config) (op : Byte) :
    (decodeOpcode c op).isOk =
      decide ¬ (op = 0x08#8 ∨ op = 0x2F#8 ∨ 0xA8 ≤ op.toNat ∨ (op = 0x27#8 ∧ c.daaMode = .unsupported)) := by
  obtain ⟨herr, -⟩ := rejectedOpcodesAreExactlyThese c op
  rw [Bool.eq_iff_iff, decide_eq_true_iff, ← herr]
  cases decodeOpcode c op <;> simp [Except.isOk, Except.toBool]

/-- Settles O5: with the rejected bytes known, only counting is left, once for each `DAA_MODE`. -/
theorem admittedSetHas166Opcodes : Obligations.AdmittedSetHas166Opcodes := by
  intro c
  simp only [decodeOpcode_isOk]
  cases c.daaMode <;> decide

/-- Settles O6: each word is read by the row the table has for its first byte. -/
theorem sampleWordsDecodeAsTheTableSays : Obligations.SampleWordsDecodeAsTheTableSays :=
  ⟨rfl, rfl, rfl, rfl, rfl, rfl, rfl, rfl, rfl, rfl, rfl, rfl⟩

end Sys2Proof
end

section
/-! Proofs over all instructions, form by form: the clock, the bus calls and the frame (10_state.md R21, R30;
20_memory.md R56, R62; 70_reset_and_hazards.md R240, R241). -/

namespace Sys2Proof.Machine

/-! ## The clock and the bus calls -/

/-- A taken JR cc,d costs what `JR_CC_CYCLES` says (44_jump.md R162). -/
theorem Form.cost_jrIf_true (c : Config) (cc : Cond) (d : Byte) : Form.cost c true (.jrIf cc d) = takenCost c := rfl

theorem Form.cost_jrIf_false (c : Config) (cc : Cond) (d : Byte) : Form.cost c false (.jrIf cc d) = 2 := rfl

/-- Every form charges its cost of the table. -/
theorem Form.run_cyc (k : Form) (s : State) : (Form.run k s).cyc = s.cyc + Form.cost s.cfg (Form.taken s k) k := by
  cases k
  case jrIf cc d =>
    simp only [Form.run, Form.taken]
    cases h : condHolds cc s.f with
    | true =>
      rw [jumpIf, if_pos h, Form.cost_jrIf_true]
      rfl
    | false =>
      rw [jumpIf, if_neg (ne_true_of_eq_false h), Form.cost_jrIf_false]
      rfl
  case add x | adc x | sub x | sbc x | and x => cases x <;> rfl
  all_goals simp [Form.run, Form.cost, ldImm, ldMemImm, ldImm16, ldReg, storeReg, loadReg_eq, storeStep, loadStep_eq, inc8,
    dec8, incMem_eq, decMem_eq, inc16, dec16, addToHL, decimalAdjust, rotateLeft, rotateRight, jumpRelative, flagsOnly,
    stopIn]

/-- Every form makes its data calls, in order. -/
theorem Form.run_busLog (k : Form) (s : State) :
    (Form.run k s).busLog = (Form.dataCalls s k).reverse ++ s.busLog := by
  cases k
  case jrIf cc d =>
    show (jumpIf cc d s).busLog = s.busLog
    unfold jumpIf
    split <;> rfl
  case add x | adc x | sub x | sbc x | and x => cases x <;> rfl
  all_goals simp [Form.run, Form.dataCalls, Form.loadAddress, Form.store, ldImm, ldMemImm, ldImm16, ldReg, storeReg,
    loadReg_eq, storeStep, loadStep_eq, inc8, dec8, incMem_eq, decMem_eq, inc16, dec16, addToHL, decimalAdjust, rotateLeft,
    rotateRight, jumpRelative, flagsOnly, stopIn, State.reg]

theorem Form.run_ran (k : Form) (s : State) :
    Ran s (Form.run k s) (Form.cost s.cfg (Form.taken s k) k) (Form.dataCalls s k) :=
  ⟨Form.run_cyc k s, Form.run_busLog k s, Form.run_cfg k s⟩

/-! ## The frame -/

/-- Only the forms with the operand SP write `sp` (10_state.md R26). -/
theorem Form.run_sp (k : Form) (s : State) (hld : ∀ nn, k ≠ .ldPairImm .sp nn) (hinc : k ≠ .incPair .sp)
    (hdec : k ≠ .decPair .sp) : (Form.run k s).sp = s.sp := by
  cases k
  case jrIf cc d =>
    show (jumpIf cc d s).sp = s.sp
    unfold jumpIf
    split <;> rfl
  case ldPairImm rr nn =>
    cases rr with
    | sp => exact absurd rfl (hld nn)
    | pair p => exact s.setPair_sp p nn
  case incPair rr =>
    cases rr with
    | sp => exact absurd rfl hinc
    | pair p => exact s.setPair_sp p _
  case decPair rr =>
    cases rr with
    | sp => exact absurd rfl hdec
    | pair p => exact s.setPair_sp p _
  all_goals simp [Form.run, ldImm, ldMemImm, ldReg, storeReg, loadReg_eq, storeStep, loadStep_eq, inc8, dec8, incMem_eq,
    decMem_eq, addToHL, addA_eq, adcA_eq, subA_eq, sbcA_eq, andA_eq, decimalAdjust, rotateLeft, rotateRight, jumpRelative,
    flagsOnly, stopIn]

/-- A byte the form does not store to stays as it was. -/
theorem Form.run_byte (k : Form) (s : State) (a : Word) (h : ∀ v, Form.store s k ≠ some (a, v)) :
    (Form.run k s).mem.read a = s.mem.read a := by
  rw [Form.run_mem]
  cases hstore : Form.store s k with
  | none => rfl
  | some w =>
    obtain ⟨b, v⟩ := w
    have hab : a ≠ b := fun hab => h v (by rw [hstore, hab])
    exact s.read_writeByte_ne b a v hab

theorem Form.reg_mem_writes {k : Form} {r : Reg8} (s : State) (h : r ∈ Form.regsWritten k) : .reg r ∈ Form.writes s k :=
  List.mem_append_left _ (List.mem_append_left _ (List.mem_append_left _ (List.mem_map_of_mem h)))

theorem Form.flag_mem_writes {k : Form} {f : FlagName} (s : State) (h : f ∈ Form.flagsWritten k) :
    .flag f ∈ Form.writes s k :=
  List.mem_append_left _ (List.mem_append_left _ (List.mem_append_right _ (List.mem_map_of_mem h)))

theorem Form.byte_mem_writes {k : Form} {s : State} {a : Word} {v : Byte} (h : Form.store s k = some (a, v)) :
    .byte a ∈ Form.writes s k := by
  refine List.mem_append_right _ ?_
  rw [h]
  exact List.mem_singleton_self _

/-- Every form changes only the parts the tables list for it. -/
theorem Form.run_onlyChanges (k : Form) (s : State) : OnlyChanges s (Form.run k s) (Form.writes s k) := by
  intro p hp
  cases p with
  | reg r => exact Form.run_reg k s r fun h => hp (Form.reg_mem_writes s h)
  | flag f => exact Form.run_flag k s f fun h => hp (Form.flag_mem_writes s h)
  | pc =>
    refine Form.run_pc k s ?_ ?_
    · rintro d rfl
      exact hp (List.mem_singleton_self Part.pc)
    · rintro cc d rfl
      exact hp (List.mem_singleton_self Part.pc)
  | sp =>
    refine Form.run_sp k s ?_ ?_ ?_
    · rintro nn rfl
      exact hp (List.mem_singleton_self Part.sp)
    · rintro rfl
      exact hp (List.mem_singleton_self Part.sp)
    · rintro rfl
      exact hp (List.mem_singleton_self Part.sp)
  | st =>
    refine (Form.run_st k s).trans ?_
    cases k
    case halt | stop => exact absurd (List.mem_singleton_self Part.st) hp
    all_goals rfl
  | byte a => exact Form.run_byte k s a fun v h => hp (Form.byte_mem_writes h)

/-- What a form stores is in memory after it. -/
theorem Form.run_stored {k : Form} {s : State} {a : Word} {v : Byte} (h : Form.store s k = some (a, v))
    (hm : s.mem.wf = true) : Stored s (Form.run k s) a v := by
  have hmem : (Form.run k s).mem = (s.writeByte a v).mem := by rw [Form.run_mem, h]
  unfold Stored
  rw [hmem]
  cases hb : s.cfg.bus with
  | flatRam => rw [State.writeByte_mem_flatRam s a v hb, Memory.read_write_same s.mem a v hm]
  | oracle => rw [State.writeByte_mem_oracle s a v hb]

/-! ## The rules over all instructions -/

/-- Settles O18: an instruction runs its form, which charges the cost of the table. -/
theorem everyInstructionChargesItsTableCost : Obligations.EveryInstructionChargesItsTableCost :=
  fun i s => ⟨_, exec_eq_run i s, Form.run_cyc i.form s⟩

/-- Settles O20, part by part of the state. -/
theorem everyInstructionChangesOnlyItsOwnParts : Obligations.EveryInstructionChangesOnlyItsOwnParts :=
  fun i s => ⟨_, exec_eq_run i s, Form.run_onlyChanges i.form s⟩

/-- Settles O23: an instruction runs its form, which makes the calls of the table. -/
theorem everyInstructionMakesExactlyItsDataCalls : Obligations.EveryInstructionMakesExactlyItsDataCalls :=
  fun i s => ⟨_, exec_eq_run i s, Form.run_busLog i.form s⟩

/-- Settles O24: over the flat RAM a read is answered from memory, which has changed in the byte stored alone. -/
theorem storedByteIsWhatTheNextReadSees : Obligations.StoredByteIsWhatTheNextReadSees := by
  intro i s hm hb
  refine ⟨_, exec_eq_run i s, ?_⟩
  have hb' : (Form.run i.form s).cfg.bus = .flatRam := by rw [Form.run_cfg, hb]
  simp only [State.busByte_flatRam _ _ hb, State.busByte_flatRam _ _ hb']
  cases hstore : Form.store s i.form with
  | none => exact fun b => Form.run_byte i.form s b (by simp [hstore])
  | some w =>
    obtain ⟨a, v⟩ := w
    refine ⟨?_, fun b hba => Form.run_byte i.form s b (by simp [hstore, hba.symm])⟩
    simpa [Stored, hb] using Form.run_stored hstore hm

end Sys2Proof.Machine
end

section
/-! Proofs of the step: the fetch in order (30_encoding.md R90 to R92), the decode failure (60_exceptions.md R201), the
invariant (10_state.md R34) and the clock of a run (70_reset_and_hazards.md R242). -/

namespace Sys2Proof.Machine

/-! ## The step in NORMAL, by the opcode byte -/

theorem afterFetch_one (s : State) : afterFetch s 1 = (s.call (.readByte s.pc)).setPc (s.pc + 1) := by
  simp [afterFetch, State.call, State.setPc]

theorem afterFetch_two (s : State) :
    afterFetch s 2 = ((s.call (.readByte s.pc)).call (.readByte (s.pc + 1))).setPc (s.pc + 1 + 1) := by
  simp [afterFetch, State.call, State.setPc, List.range_succ, BitVec.add_assoc]

theorem afterFetch_three (s : State) :
    afterFetch s 3 =
      (((s.call (.readByte s.pc)).call (.readByte (s.pc + 1))).call (.readByte (s.pc + 1 + 1))).setPc (s.pc + 1 + 2) := by
  simp [afterFetch, State.call, State.setPc, List.range_succ, BitVec.add_assoc]

/-- The immediate fetches of a row read the bytes it takes, each answered after the calls before it, and leave the state
its bytes are fetched in. -/
theorem fetchImmediates_of_take {s : State} {row : Row} {i : Instr} {rest : List Byte}
    (h : row.take [(s.call (.readByte s.pc)).busByte (s.pc + 1),
      ((s.call (.readByte s.pc)).call (.readByte (s.pc + 1))).busByte (s.pc + 2)] = .ok (i, rest)) :
    fetchImmediates row (s.pc + 1) (s.call (.readByte s.pc)) = .decoded i (afterFetch s row.length) := by
  cases row <;> cases h <;> simp only [Row.length]
  case f0 => rw [afterFetch_one]; rfl
  case f1n | f1d | f1s => rw [afterFetch_two]; rfl
  case f2 =>
    have hnext : s.pc + 2 = s.pc + 1 + 1 := by bv_omega
    rw [afterFetch_three, hnext]
    rfl

theorem fetch_of_row {s : State} {row : Row} (h : decodeOpcode s.cfg (s.busByte s.pc) = .ok row) :
    fetch s = fetchImmediates row (s.pc + 1) (s.call (.readByte s.pc)) := by
  simp only [fetch, State.readByte, h]

theorem fetch_of_error {s : State} {e : DecodeError} (h : decodeOpcode s.cfg (s.busByte s.pc) = .error e) :
    fetch s = .failed (s.call (.readByte s.pc)) := by
  simp only [fetch, State.readByte, h]

/-- Settles O9: the fetch ends in the instruction the row takes, and the step runs it. -/
theorem stepFetchesInOrderOverAnyBus : Obligations.StepFetchesInOrderOverAnyBus := by
  intro s row i rest hn hop htake
  have hfetch : fetch s = .decoded i (afterFetch s row.length) := by
    rw [fetch_of_row hop, fetchImmediates_of_take htake]
  rw [step_of_decoded hn hfetch, exec_eq_run]

/-- Settles O8: over the flat RAM the calls made do not change the answers, so the bytes are those of O9. -/
theorem stepRunsTheDecodedInstruction : Obligations.StepRunsTheDecodedInstruction := by
  intro s i rest hn hb hdec
  obtain ⟨op, more, row, hbytes, hop, htake⟩ := decode_ok _ _ _ _ hdec
  obtain ⟨rfl, rfl⟩ : s.mem.read s.pc = op ∧ [s.mem.read (s.pc + 1), s.mem.read (s.pc + 2)] = more := by
    simpa using hbytes
  have hlen : 3 - rest.length = row.length := by
    have htaken := row.take_length _ _ _ htake
    simp only [List.length_cons, List.length_nil] at htaken
    omega
  have hread (t : State) (a : Word) (hc : t.cfg = s.cfg) (hm : t.mem = s.mem) : t.busByte a = s.mem.read a := by
    rw [t.busByte_flatRam a (by rw [hc, hb]), hm]
  rw [hlen]
  refine stepFetchesInOrderOverAnyBus s row i rest hn ?_ ?_
  · rw [hread s _ rfl rfl, hop]
  · rw [hread (s.call _) _ rfl rfl, hread ((s.call _).call _) _ rfl rfl, htake]

/-! ## Changing only `st` -/

/-- Entering ERROR changes `st` alone. -/
theorem State.enterError_onlyChanges (s : State) : OnlyChanges s s.enterError [.st] := by
  intro p hp
  cases p
  case st => simp at hp
  case reg r => exact s.reg_enterError r
  all_goals rfl

/-- A bus call changes no part of the state. -/
theorem OnlyChanges.of_call {s t : State} {k : BusCall} {parts : List Part} (h : OnlyChanges (s.call k) t parts) :
    OnlyChanges s t parts := by
  intro p hp
  have hsame := h p hp
  cases p <;> exact hsame

/-- Settles O10: the fetch makes the one call, and the failure enters ERROR. -/
theorem decodeFailureOnlyEntersError : Obligations.DecodeFailureOnlyEntersError := by
  intro s e hn herr
  exact ⟨_, step_of_failed hn (fetch_of_error herr), rfl, .of_call (State.enterError_onlyChanges _), ⟨rfl, rfl, rfl⟩, rfl⟩

/-- Settles O59: `SignalError` is entering ERROR from NORMAL, and nothing elsewhere. -/
theorem signalErrorOnlyMovesNormalToError : Obligations.SignalErrorOnlyMovesNormalToError := by
  refine fun s => ⟨s.signalError, rfl, fun hn => ?_, State.signalError_of_ne_normal⟩
  rw [State.signalError_of_normal hn]
  exact ⟨rfl, s.enterError_onlyChanges, ⟨rfl, rfl, rfl⟩, rfl⟩

/-- Settles O11, by the rule of `step` for terminal states. -/
theorem stepRequestInATerminalStateChangesNothing : Obligations.StepRequestInATerminalStateChangesNothing :=
  fun _ => step_of_terminal

/-- Settles O12, by the rule of `step` for EXPECTING_CBP. -/
theorem expectingCbpHasNoStepToTake : Obligations.ExpectingCbpHasNoStepToTake :=
  fun _ => step_of_expectingCbp

/-! ## The invariant -/

/-- Fetching an instruction moves `pc` and makes bus calls: the clock, the memory and the parameters stay. -/
theorem fetch_decoded_keeps {s s' : State} {i : Instr} (hf : fetch s = .decoded i s') :
    s'.cyc = s.cyc ∧ s'.mem = s.mem ∧ s'.cfg = s.cfg := by
  obtain ⟨_, j, target, calls, -, hd⟩ | ⟨_, -, hfail⟩ := fetch_cases s
  · obtain ⟨-, rfl⟩ : j = i ∧ { s with pc := target, busLog := calls } = s' := by simpa [hd] using hf
    exact ⟨rfl, rfl, rfl⟩
  · simp [hfail] at hf

/-- A decode failure has made the opcode read and nothing more. -/
theorem fetch_failed_eq {s s' : State} (hf : fetch s = .failed s') : s' = s.call (.readByte s.pc) := by
  obtain ⟨_, _, _, _, -, hd⟩ | ⟨_, -, hfail⟩ := fetch_cases s
  · simp [hd] at hf
  · simpa [hfail] using hf.symm

/-- No form leaves the canonical form of memory: the one store it can make keeps it. -/
theorem Form.run_wf (k : Form) {s : State} (h : s.mem.wf = true) : (Form.run k s).mem.wf = true := by
  rw [Form.run_mem]
  cases Form.store s k with
  | none => exact h
  | some w => exact s.wf_writeByte w.1 w.2 h

/-- No form enters EXPECTING_CBP. -/
theorem Form.run_st_ne_expectingCbp (k : Form) {s : State} (h : s.st ≠ .expectingCbp) :
    (Form.run k s).st ≠ .expectingCbp := by
  rw [Form.run_st]
  cases k
  case stop | halt => simp
  all_goals exact h

theorem Form.run_inv (k : Form) {s : State} (h : s.Inv) : (Form.run k s).Inv :=
  ⟨Form.run_wf k h.1, Form.run_st_ne_expectingCbp k h.2⟩

/-- Settles O15, by what a step can do. -/
theorem everyStepKeepsTheInvariant : Obligations.EveryStepKeepsTheInvariant := by
  intro s hinv
  obtain ⟨hn, i, s', hf, hstep⟩ | ⟨hn, s', hf, hstep⟩ | ⟨-, -, hstep⟩ | ⟨hcbp, -⟩ := step_cases s
  · obtain ⟨-, hmem, -⟩ := fetch_decoded_keeps hf
    have hinv' : s'.Inv := by
      rw [State.Inv, hmem, st_of_fetch_decoded hf]
      exact hinv
    exact ⟨_, hstep.trans (exec_eq_run i s'), Form.run_inv i.form hinv'⟩
  · rw [fetch_failed_eq hf] at hstep
    exact ⟨_, hstep, hinv.1, by simp⟩
  · exact ⟨s, hstep, hinv⟩
  · exact absurd hcbp hinv.2

/-- Settles O16: the memory list is empty and the state NORMAL. -/
theorem resetStateHasTheInvariant : Obligations.ResetStateHasTheInvariant :=
  ⟨rfl, by decide⟩

@[simp] theorem State.load_mem (s : State) (k : LoadTarget) : (s.load k).mem = s.mem := by
  cases k <;> simp [State.load]

/-- `SignalError` leaves memory as it is and enters no state but ERROR. -/
theorem State.signalError_inv {s : State} (h : s.Inv) : s.signalError.Inv := by
  by_cases hn : s.st = .normal
  · rw [State.signalError_of_normal hn]
    exact ⟨h.1, by simp⟩
  · rwa [State.signalError_of_ne_normal hn]

/-- Settles O17, action by action. -/
theorem everyHostActionKeepsTheInvariant : Obligations.EveryHostActionKeepsTheInvariant := by
  intro k s hinv
  cases k with
  | step => exact everyStepKeepsTheInvariant s hinv
  | reset rv => exact ⟨s.hostReset rv, rfl, hinv.1, by simp⟩
  | signalError => exact ⟨s.signalError, rfl, State.signalError_inv hinv⟩
  | load t => exact ⟨s.load t, rfl, by rwa [State.Inv, State.load_mem, State.load_st]⟩

/-! ## The clock of a run (R242) -/

/-- A step charges the cost of the instruction it executes, and nothing if it executes none. -/
theorem step_cyc {s t : State} (h : step s = .next t) : t.cyc = s.cyc + stepCost s := by
  obtain ⟨hn, i, s', hf, hstep⟩ | ⟨hn, s', hf, hstep⟩ | ⟨hn, hcbp, hstep⟩ | ⟨-, hstep⟩ := step_cases s
  · rw [exec_eq_run, h] at hstep
    cases hstep
    obtain ⟨hcyc, -, -⟩ := fetch_decoded_keeps hf
    simp only [stepCost, hn, hf, Form.run_cyc, hcyc]
  · rw [h, fetch_failed_eq hf] at hstep
    cases hstep
    simp only [stepCost, hn, hf]
    rfl
  · rw [h] at hstep
    cases hstep
    unfold stepCost
    split
    · exact absurd ‹_› hn
    · rfl
  · rw [h] at hstep
    cases hstep

/-- Settles O19, by induction on the number of steps. -/
theorem runChargesTheSumOfTheCosts : Obligations.RunChargesTheSumOfTheCosts := by
  intro k
  induction k with
  | zero =>
    intro s t h
    cases h
    rfl
  | succ k ih =>
    intro s t h
    cases hstep : step s with
    | next u =>
      have hrest : Sys2Proof.core.run k u = .next t := by
        rw [← h]
        simp only [Host.Core.run, Sys2Proof.core, hstep]
      simp only [runCost, hstep, ih u t hrest, step_cyc hstep]
      omega
    | fault r => simp [Host.Core.run, Sys2Proof.core, hstep] at h
    | refused r => simp [Host.Core.run, Sys2Proof.core, hstep] at h

end Sys2Proof.Machine
end

section
/-! Proofs of the family 40_loads.md (R100 to R111). The frame and the calls of each row are those of its form; what is left
is the bytes, and the value in its place. -/

namespace Sys2Proof.Machine

theorem OnlyChanges.mono {s t : State} {parts parts' : List Part} (h : OnlyChanges s t parts) (hsub : parts ⊆ parts') :
    OnlyChanges s t parts' :=
  fun p hp => h p fun hmem => hp (hsub hmem)

/-! ## Immediates and registers (R100 to R103) -/

/-- Settles O25: the register reads as written. -/
theorem loadImmediateIntoARegister : Obligations.LoadImmediateIntoARegister := by
  intro r n s
  refine ⟨by cases r <;> rfl, _, exec_ldImm r n s, ?_, Form.run_onlyChanges (.ldImm r n) s, Form.run_ran (.ldImm r n) s⟩
  simp [ldImm]

/-- Settles O26: the form stores the immediate at HL. -/
theorem loadImmediateIntoTheByteAtHL : Obligations.LoadImmediateIntoTheByteAtHL :=
  fun n s hm => ⟨rfl, _, exec_ld_mHL_n n s, Form.run_stored (k := .ldMemImm n) rfl hm,
    Form.run_onlyChanges (.ldMemImm n) s, Form.run_ran (.ldMemImm n) s⟩

theorem immLow_eq (nn : Word) : immLow nn = opcodeByte (nn.toNat % 256) := by
  refine BitVec.eq_of_toNat_eq ((toNat_lowByte nn).trans ?_)
  simp [opcodeByte]

theorem immHigh_eq (nn : Word) : immHigh nn = opcodeByte (nn.toNat / 256) := by
  refine BitVec.eq_of_toNat_eq ((toNat_highByte nn).trans ?_)
  simp only [opcodeByte, BitVec.toNat_ofNat]
  omega

/-- Settles O27: a pair is written through its two registers (R23), SP whole. -/
theorem loadImmediateIntoAPairOrSP : Obligations.LoadImmediateIntoAPairOrSP := by
  refine ⟨fun p nn s => ?_, fun nn s => ?_⟩
  · refine ⟨?_, _, exec_ldImm16 (.pair p) nn s, ?_, ?_, ?_, Form.run_onlyChanges (.ldPairImm (.pair p) nn) s,
      Form.run_ran (.ldPairImm (.pair p) nn) s⟩
    · rw [← immLow_eq, ← immHigh_eq]
      cases p <;> rfl
    · simp only [ldImm16, State.reg_advance, State.setReg16, State.toNat_pairHigh_setPair]
    · simp only [ldImm16, State.reg_advance, State.setReg16, State.toNat_pairLow_setPair]
    · simp only [ldImm16, State.pair_advance, State.setReg16, State.pair_setPair]
  · rw [← immLow_eq, ← immHigh_eq]
    exact ⟨rfl, _, exec_ldImm16 .sp nn s, rfl, Form.run_onlyChanges (.ldPairImm .sp nn) s,
      Form.run_ran (.ldPairImm .sp nn) s⟩

/-- Writing a register with the value it holds changes nothing. -/
theorem State.setReg_reg_self (s : State) (r : Reg8) : s.setReg r (s.reg r) = s := by
  cases r <;> rfl

/-- Charging cycles changes no part of the state. -/
theorem State.advance_onlyChanges (s : State) (n : Nat) : OnlyChanges s (s.advance n) [] := by
  rintro p -
  cases p
  case reg r => exact s.reg_advance n r
  all_goals rfl

/-- Settles O28; where r = r' the register is written with its own value. -/
theorem copyRegisterToRegister : Obligations.CopyRegisterToRegister := by
  intro r r' s
  refine ⟨by cases r <;> cases r' <;> rfl, _, exec_ldReg r r' s, ?_, Form.run_onlyChanges (.ldReg r r') s,
    Form.run_ran (.ldReg r r') s, ?_⟩
  · simp [ldReg]
  · rintro rfl
    rw [ldReg, State.setReg_reg_self]
    exact s.advance_onlyChanges 1

/-! ## Through HL, BC and DE (R104 to R107) -/

/-- Settles O29: the address is read before the register is written. -/
theorem loadRegisterFromTheByteAtHL : Obligations.LoadRegisterFromTheByteAtHL := by
  intro r s
  refine ⟨by cases r <;> rfl, _, exec_ldFromHL r s, ?_, Form.run_onlyChanges (.ldFromHL r) s,
    Form.run_ran (.ldFromHL r) s⟩
  simp [loadReg_eq]

/-- Settles O30: the form stores the register at HL. -/
theorem storeRegisterToTheByteAtHL : Obligations.StoreRegisterToTheByteAtHL :=
  fun r s hm => ⟨by cases r <;> rfl, _, exec_ldToHL r s, Form.run_stored (k := .ldToHL r) rfl hm,
    Form.run_onlyChanges (.ldToHL r) s, Form.run_ran (.ldToHL r) s⟩

/-- Settles O31, row by row. -/
theorem loadAndStoreAThroughBCAndDE : Obligations.LoadAndStoreAThroughBCAndDE := by
  intro s hm
  refine ⟨List.forall_mem_cons.mpr ⟨?_, List.forall_mem_singleton.mpr ?_⟩,
    List.forall_mem_cons.mpr ⟨?_, List.forall_mem_singleton.mpr ?_⟩⟩
  · exact ⟨rfl, _, exec_eq_run .ld_A_mBC s, rfl, Form.run_onlyChanges _ s, Form.run_ran _ s⟩
  · exact ⟨rfl, _, exec_eq_run .ld_A_mDE s, rfl, Form.run_onlyChanges _ s, Form.run_ran _ s⟩
  · exact ⟨rfl, _, exec_eq_run .ld_mBC_A s, Form.run_stored rfl hm, Form.run_onlyChanges _ s, Form.run_ran _ s⟩
  · exact ⟨rfl, _, exec_eq_run .ld_mDE_A s, Form.run_stored rfl hm, Form.run_onlyChanges _ s, Form.run_ran _ s⟩

/-! ## Loads that step HL (R108 to R111) -/

theorem toNat_word_add_one (v : Word) : ((v + 1).toNat : Int) = ((v.toNat : Int) + 1) % 65536 := by
  bv_omega

theorem toNat_word_sub_one (v : Word) : ((v - 1).toNat : Int) = ((v.toNat : Int) + -1) % 65536 := by
  bv_omega

theorem storeStep_pair (step : Word → Word) (s : State) : (storeStep step s).pair .hl = step (s.pair .hl) := by
  simp [storeStep]

theorem loadStep_pair (step : Word → Word) (s : State) : (loadStep step s).pair .hl = step (s.pair .hl) := by
  simp [loadStep_eq]

/-- The step of HL leaves A, which is neither H nor L, as loaded. -/
theorem loadStep_a (step : Word → Word) (s : State) : (loadStep step s).a = s.busByte (s.pair .hl) := rfl

/-- Settles O32: HL is one up or one down from the old HL, at which A is stored. -/
theorem storeAAndStepHL : Obligations.StoreAAndStepHL := by
  intro s hm
  have hsub : [Part.reg .h, .reg .l, .byte (s.pair .hl)] ⊆ [.byte (s.pair .hl), .reg .h, .reg .l] := by simp
  refine List.forall_mem_cons.mpr ⟨?_, List.forall_mem_singleton.mpr ?_⟩
  · refine ⟨rfl, storeStep (· + 1) s, rfl, Form.run_stored (k := .ldiStore) rfl hm, ?_,
      (Form.run_onlyChanges .ldiStore s).mono hsub, Form.run_ran .ldiStore s⟩
    simp only [storeStep_pair, toNat_word_add_one]
  · refine ⟨rfl, storeStep (· - 1) s, rfl, Form.run_stored (k := .lddStore) rfl hm, ?_,
      (Form.run_onlyChanges .lddStore s).mono hsub, Form.run_ran .lddStore s⟩
    simp only [storeStep_pair, toNat_word_sub_one]

/-- Settles O33: HL is one up or one down from the old HL, from which A is loaded. -/
theorem loadAAndStepHL : Obligations.LoadAAndStepHL := by
  intro s
  refine List.forall_mem_cons.mpr ⟨?_, List.forall_mem_singleton.mpr ?_⟩
  · refine ⟨rfl, loadStep (· + 1) s, rfl, loadStep_a _ s, ?_, Form.run_onlyChanges .ldiLoad s,
      Form.run_ran .ldiLoad s⟩
    simp only [loadStep_pair, toNat_word_add_one]
  · refine ⟨rfl, loadStep (· - 1) s, rfl, loadStep_a _ s, ?_, Form.run_onlyChanges .lddLoad s,
      Form.run_ran .lddLoad s⟩
    simp only [loadStep_pair, toNat_word_sub_one]

end Sys2Proof.Machine
end

section
/-! Proofs of the family 41_inc_dec.md (R120 to R125). -/

namespace Sys2Proof.Machine

/-! ## INC r and DEC r -/

/-- Settles O34: the register takes the byte one up, and the flags are computed from the old byte. -/
theorem incrementARegister : Obligations.IncrementARegister := by
  intro r s
  refine ⟨by cases r <;> rfl, _, exec_inc8 r s, ?_, ?_, rfl, rfl, Form.run_onlyChanges (.incReg r) s,
    Form.run_ran (.incReg r) s⟩
  · rw [inc8_reg, toNat_incByte]
  · rw [inc8_reg, inc8_f, Flags.inc]

/-- Settles O35: the register takes the byte one down, and the flags are computed from the old byte. -/
theorem decrementARegister : Obligations.DecrementARegister := by
  intro r s
  refine ⟨by cases r <;> rfl, _, exec_dec8 r s, ?_, ?_, rfl, rfl, Form.run_onlyChanges (.decReg r) s,
    Form.run_ran (.decReg r) s⟩
  · rw [dec8_reg, toNat_decByte]
    omega
  · rw [dec8_reg, dec8_f, Flags.dec]

/-! ## INC (HL) and DEC (HL) -/

theorem incByte_eq (v : Byte) : incByte v = opcodeByte (v.toNat + 1) := by
  refine BitVec.eq_of_toNat_eq ((toNat_incByte v).trans ?_)
  simp [opcodeByte]

theorem decByte_eq (v : Byte) : decByte v = opcodeByte (v.toNat + 255) := by
  refine BitVec.eq_of_toNat_eq ((toNat_decByte v).trans ?_)
  simp [opcodeByte]

/-- Settles O36: the form stores the byte one up or one down, where it was read. -/
theorem incrementAndDecrementTheByteAtHL : Obligations.IncrementAndDecrementTheByteAtHL := by
  intro s hm
  have hsub : [Part.flag .z, .flag .n, .flag .h, .byte (s.pair .hl)] ⊆
      [.byte (s.pair .hl), .flag .z, .flag .n, .flag .h] := by simp
  simp only [← incByte_eq, ← decByte_eq]
  constructor
  · exact ⟨rfl, incMem s, rfl, Form.run_stored (k := .incMem) rfl hm, rfl, rfl, rfl,
      (Form.run_onlyChanges .incMem s).mono hsub, Form.run_ran .incMem s⟩
  · exact ⟨rfl, decMem s, rfl, Form.run_stored (k := .decMem) rfl hm, rfl, rfl, rfl,
      (Form.run_onlyChanges .decMem s).mono hsub, Form.run_ran .decMem s⟩

/-! ## INC rr and DEC rr -/

/-- A pair or SP reads as written. -/
@[simp] theorem State.reg16_setReg16 (s : State) (rr : Reg16) (v : Word) : (s.setReg16 rr v).reg16 rr = v := by
  cases rr with
  | pair p => exact s.pair_setPair p v
  | sp => rfl

@[simp] theorem State.reg16_advance (s : State) (n : Nat) (rr : Reg16) : (s.advance n).reg16 rr = s.reg16 rr := by
  cases rr with
  | pair p => exact s.pair_advance n p
  | sp => rfl

/-- Settles O37, for a pair and for SP. -/
theorem incrementAndDecrementAPairOrSP : Obligations.IncrementAndDecrementAPairOrSP := by
  intro rr s
  constructor
  · refine ⟨by rcases rr with (_ | _ | _) | _ <;> rfl, _, exec_inc16 rr s, ?_, ?_, Form.run_ran (.incPair rr) s⟩
    · simp [inc16]
    · cases rr <;> exact Form.run_onlyChanges (.incPair _) s
  · refine ⟨by rcases rr with (_ | _ | _) | _ <;> rfl, _, exec_dec16 rr s, ?_, ?_, Form.run_ran (.decPair rr) s⟩
    · rw [dec16, State.reg16_advance, State.reg16_setReg16, toNat_word_sub_one, Int.sub_eq_add_neg]
    · cases rr <;> exact Form.run_onlyChanges (.decPair _) s

end Sys2Proof.Machine
end

section
/-! Proofs of the family 42_arith.md: the sums, the differences and AND (R130 to R136). -/

namespace Sys2Proof.Machine

/-! ## ADD HL,rr -/

/-- Settles O39: the pair HL reads as the sum written, and the flags are the carries of the rule. -/
theorem addAPairOrSPIntoHL : Obligations.AddAPairOrSPIntoHL := by
  intro rr s
  refine ⟨by rcases rr with (_ | _ | _) | _ <;> rfl, _, exec_addHL rr s, ?_, rfl, rfl, rfl,
    Form.run_onlyChanges (.addHL rr) s, Form.run_ran (.addHL rr) s⟩
  simp only [addToHL, State.pair_advance, State.pair_setFlags, State.pair_setPair, toNat_addWords]

/-! ## The 8-bit operations on A and an operand -/

/-- What reading the operand answers (R130). -/
@[simp] theorem State.operand_fst (s : State) (x : Operand) : (s.operand x).1 = operandValue s x := by
  cases x <;> rfl

/-! What each operation leaves in A and in the flags. -/

theorem addA_a (x : Operand) (s : State) : (addA x s).a = addBytes s.a (operandValue s x) false := by
  cases x <;> rfl

theorem addA_f (x : Operand) (s : State) : (addA x s).f = Flags.ofAdd s.a (operandValue s x) false := by
  cases x <;> rfl

theorem adcA_a (x : Operand) (s : State) : (adcA x s).a = addBytes s.a (operandValue s x) s.f.c := by
  cases x <;> rfl

theorem adcA_f (x : Operand) (s : State) : (adcA x s).f = Flags.ofAdd s.a (operandValue s x) s.f.c := by
  cases x <;> rfl

theorem subA_a (x : Operand) (s : State) : (subA x s).a = subBytes s.a (operandValue s x) false := by
  cases x <;> rfl

theorem subA_f (x : Operand) (s : State) : (subA x s).f = Flags.ofSub s.a (operandValue s x) false := by
  cases x <;> rfl

theorem sbcA_a (x : Operand) (s : State) : (sbcA x s).a = subBytes s.a (operandValue s x) s.f.c := by
  cases x <;> rfl

theorem sbcA_f (x : Operand) (s : State) : (sbcA x s).f = Flags.ofSub s.a (operandValue s x) s.f.c := by
  cases x <;> rfl

/-- The sum and its flags, as numbers (R132, R133). -/
theorem numbers_of_ofAdd {t : State} {a v : Byte} {c : Bool} (ha : t.a = addBytes a v c) (hf : t.f = Flags.ofAdd a v c) :
    t.a.toNat = (a.toNat + v.toNat + c.toNat) % 256 ∧ t.f.z = decide (t.a = 0) ∧ t.f.n = false ∧
      t.f.h = decide (a.toNat % 16 + v.toNat % 16 + c.toNat > 15) ∧
      t.f.c = decide (a.toNat + v.toNat + c.toNat > 255) := by
  rw [hf, ha]
  exact ⟨toNat_addBytes a v c, rfl, rfl, rfl, rfl⟩

/-- The difference and its flags, as numbers (R134, R135). -/
theorem numbers_of_ofSub {t : State} {a v : Byte} {c : Bool} (ha : t.a = subBytes a v c) (hf : t.f = Flags.ofSub a v c) :
    (t.a.toNat : Int) = ((a.toNat : Int) - v.toNat - c.toNat) % 256 ∧ t.f.z = decide (t.a = 0) ∧ t.f.n = true ∧
      t.f.h = decide (a.toNat % 16 < v.toNat % 16 + c.toNat) ∧ t.f.c = decide (a.toNat < v.toNat + c.toNat) := by
  rw [hf, ha]
  exact ⟨toNat_subBytes a v c, rfl, rfl, rfl, rfl⟩

/-- Settles O40: ADD and ADC are one sum, with the carry-in 0 and the old C. -/
theorem addAndAddWithCarry : Obligations.AddAndAddWithCarry := by
  intro x s
  refine List.forall_mem_cons.mpr ⟨?_, List.forall_mem_singleton.mpr ?_⟩
  · have hran := Form.run_ran (.add x) s
    obtain ⟨ha, hz, hn, hh, hc⟩ := numbers_of_ofAdd (addA_a x s) (addA_f x s)
    exact ⟨by rcases x with (_ | _) | _ <;> rfl, _, exec_aluAdd x s, ha, hz, hn, hh, hc, Form.run_onlyChanges (.add x) s,
      by cases x <;> exact hran⟩
  · have hran := Form.run_ran (.adc x) s
    obtain ⟨ha, hz, hn, hh, hc⟩ := numbers_of_ofAdd (adcA_a x s) (adcA_f x s)
    exact ⟨by rcases x with (_ | _) | _ <;> rfl, _, exec_aluAdc x s, ha, hz, hn, hh, hc, Form.run_onlyChanges (.adc x) s,
      by cases x <;> exact hran⟩

/-- Settles O41: SUB and SBC are one difference, with the borrow-in 0 and the old C. -/
theorem subtractAndSubtractWithCarry : Obligations.SubtractAndSubtractWithCarry := by
  intro x s
  refine List.forall_mem_cons.mpr ⟨?_, List.forall_mem_singleton.mpr ?_⟩
  · have hran := Form.run_ran (.sub x) s
    obtain ⟨ha, hz, hn, hh, hc⟩ := numbers_of_ofSub (subA_a x s) (subA_f x s)
    exact ⟨by rcases x with (_ | _) | _ <;> rfl, _, exec_aluSub x s, ha, hz, hn, hh, hc, Form.run_onlyChanges (.sub x) s,
      by cases x <;> exact hran⟩
  · have hran := Form.run_ran (.sbc x) s
    obtain ⟨ha, hz, hn, hh, hc⟩ := numbers_of_ofSub (sbcA_a x s) (sbcA_f x s)
    exact ⟨by rcases x with (_ | _) | _ <;> rfl, _, exec_aluSbc x s, ha, hz, hn, hh, hc, Form.run_onlyChanges (.sbc x) s,
      by cases x <;> exact hran⟩

/-- Settles O42: a bit of the AND is the AND of the bits. -/
theorem bitwiseAndIntoA : Obligations.BitwiseAndIntoA := by
  intro x s
  refine ⟨by rcases x with (_ | _) | _ <;> rfl, _, exec_aluAnd x s, ?_, rfl, rfl, rfl, rfl,
    Form.run_onlyChanges (.and x) s, ?_⟩
  · intro k
    simp [andA_eq, State.setReg]
  · have hran := Form.run_ran (.and x) s
    cases x <;> exact hran

end Sys2Proof.Machine
end

section
/-! Proofs of the family 42_arith.md: decimal adjust (R137). -/

namespace Sys2Proof.Machine

theorem decimalAdjust_a (s : State) : (decimalAdjust s).a = daaResult s.a s.f := rfl

theorem decimalAdjust_f (s : State) : (decimalAdjust s).f = s.f.daa s.a := rfl

/-- The addition branch, as numbers: adding 0x60 keeps the low nibble, so the two corrections can be chosen at once. -/
theorem toNat_daaResult_of_add {a : Byte} {f : Flags} (hn : f.n = false) :
    (daaResult a f).toNat =
      (a.toNat + (if f.c = true ∨ a.toNat > 0x99 then 0x60 else 0) + (if f.h = true ∨ a.toNat % 16 > 9 then 6 else 0)) %
        256 := by
  simp [daaResult, daaCorrection, daaHigh, daaLow, hn, trunc8, nibble, Nat.add_assoc]

/-- The subtraction branch, as numbers. -/
theorem toNat_daaResult_of_sub {a : Byte} {f : Flags} (hn : f.n = true) :
    ((daaResult a f).toNat : Int) =
      ((a.toNat : Int) - (if f.c then 0x60 else 0) - (if f.h then 6 else 0)) % 256 := by
  simp only [daaResult, daaCorrection, daaHigh, daaLow, hn, if_true, truncInt8, BitVec.toNat_ofInt]
  split <;> split <;> simp <;> omega

/-- Settles O43: branch by branch. -/
theorem decimalAdjustFollowsItsTwoBranches : Obligations.DecimalAdjustFollowsItsTwoBranches := by
  intro s
  refine ⟨rfl, decimalAdjust s, rfl, fun hn => ⟨?_, ?_⟩, fun hn => ⟨?_, ?_⟩, rfl, rfl, Form.run_onlyChanges .daa s,
    Form.run_ran .daa s⟩
  · have hnibble : (if s.f.c || decide (s.a.toNat > 0x99) then s.a.toNat + 0x60 else s.a.toNat) % 16 = s.a.toNat % 16 := by
      split <;> omega
    rw [decimalAdjust_a, toNat_daaResult_of_add hn, hnibble]
    simp only [Bool.or_eq_true, decide_eq_true_eq]
    split <;> split <;> rfl
  · simp [decimalAdjust_f, Flags.daa, daaHigh, hn]
  · rw [decimalAdjust_a, toNat_daaResult_of_sub hn]
    split <;> split <;> simp
  · simp [decimalAdjust_f, Flags.daa, hn]

/-! ## Decimal arithmetic -/

theorem isBcd_iff (v : Byte) : isBcd v = true ↔ v.toNat % 16 ≤ 9 ∧ v.toNat / 16 ≤ 9 := by
  simp [isBcd]

/-- The sum `t` of two two-digit decimals, taken as bytes, and the corrections of the addition branch, which make it `u`:
each applies exactly where the decimal digit sum carries, so the digits of `u` are those of the decimal sum. -/
theorem digits_of_sum {a₁ a₀ v₁ v₀ c t u : Nat} (ha₁ : a₁ ≤ 9) (ha₀ : a₀ ≤ 9) (hv₁ : v₁ ≤ 9) (hv₀ : v₀ ≤ 9) (hc : c ≤ 1)
    (ht : t = (16 * a₁ + a₀ + (16 * v₁ + v₀) + c) % 256)
    (hu : u = (t + (if 16 * a₁ + a₀ + (16 * v₁ + v₀) + c > 255 ∨ t > 0x99 then 0x60 else 0) +
      (if a₀ + v₀ + c > 15 ∨ t % 16 > 9 then 6 else 0)) % 256) :
    u % 16 ≤ 9 ∧ u / 16 ≤ 9 ∧ 10 * (u / 16) + u % 16 = (10 * a₁ + a₀ + (10 * v₁ + v₀) + c) % 100 ∧
      (16 * a₁ + a₀ + (16 * v₁ + v₀) + c > 255 ∨ t > 0x99 ↔ 10 * a₁ + a₀ + (10 * v₁ + v₀) + c > 99) := by
  have hlow : (a₀ + v₀ + c > 15 ∨ t % 16 > 9) ↔ a₀ + v₀ + c > 9 := by omega
  have hhigh : (16 * a₁ + a₀ + (16 * v₁ + v₀) + c > 255 ∨ t > 0x99) ↔ 10 * a₁ + a₀ + (10 * v₁ + v₀) + c > 99 := by omega
  rw [hhigh]
  simp only [hlow, hhigh] at hu
  split_ifs at hu
  · obtain rfl : u = 16 * (a₁ + v₁ + 1 - 10) + (a₀ + v₀ + c - 10) := by omega
    omega
  · obtain rfl : u = 16 * (a₁ + v₁ - 10) + (a₀ + v₀ + c) := by omega
    omega
  · obtain rfl : u = 16 * (a₁ + v₁ + 1) + (a₀ + v₀ + c - 10) := by omega
    omega
  · obtain rfl : u = 16 * (a₁ + v₁) + (a₀ + v₀ + c) := by omega
    omega

/-- The difference `t` and the corrections of the subtraction branch, likewise: each applies exactly where the decimal
digit borrows. -/
theorem digits_of_difference {a₁ a₀ v₁ v₀ c t u : Nat} (ha₁ : a₁ ≤ 9) (ha₀ : a₀ ≤ 9) (hv₁ : v₁ ≤ 9) (hv₀ : v₀ ≤ 9)
    (hc : c ≤ 1) (ht : (t : Int) = ((16 * a₁ + a₀ : Nat) - (16 * v₁ + v₀ : Nat) - (c : Int)) % 256)
    (hu : (u : Int) = (t - (if 16 * a₁ + a₀ < 16 * v₁ + v₀ + c then 0x60 else 0) -
      (if a₀ < v₀ + c then 6 else 0)) % 256) :
    u % 16 ≤ 9 ∧ u / 16 ≤ 9 ∧
      ((10 * (u / 16) + u % 16 : Nat) : Int) = ((10 * a₁ + a₀ : Nat) - (10 * v₁ + v₀ : Nat) - (c : Int)) % 100 ∧
      (16 * a₁ + a₀ < 16 * v₁ + v₀ + c ↔ ((10 * a₁ + a₀ : Nat) - (10 * v₁ + v₀ : Nat) - (c : Int)) < 0) := by
  have hborrow : 16 * a₁ + a₀ < 16 * v₁ + v₀ + c ↔ ((10 * a₁ + a₀ : Nat) - (10 * v₁ + v₀ : Nat) - (c : Int)) < 0 := by
    omega
  rw [hborrow]
  split_ifs at hu
  · obtain rfl : u = 16 * (a₁ + 9 - v₁) + (a₀ + 10 - (v₀ + c)) := by omega
    omega
  · obtain rfl : u = 16 * (a₁ + 10 - v₁) + (a₀ - (v₀ + c)) := by omega
    omega
  · obtain rfl : u = 16 * (a₁ - (v₁ + 1)) + (a₀ + 10 - (v₀ + c)) := by omega
    omega
  · obtain rfl : u = 16 * (a₁ - v₁) + (a₀ - (v₀ + c)) := by omega
    omega

/-- The carry DAA leaves after an addition: whether 0x60 was added. -/
theorem decimalAdjust_carry_of_add {t : State} (hn : t.f.n = false) :
    (decimalAdjust t).f.c = (t.f.c || decide (t.a.toNat > 0x99)) := by
  simp [decimalAdjust_f, Flags.daa, daaHigh, hn]

/-- The carry DAA leaves after a subtraction: the borrow of the subtraction. -/
theorem decimalAdjust_carry_of_sub {t : State} (hn : t.f.n = true) : (decimalAdjust t).f.c = t.f.c := by
  simp [decimalAdjust_f, Flags.daa, hn]

section
variable {t : State} {a v : Byte} {c : Bool} (ha : isBcd a = true) (hv : isBcd v = true)
include ha hv

/-- After a sum of two-digit decimals the adjusted A is the decimal sum, the carry out of its tens in C. -/
theorem decimalAdjust_of_add (hta : t.a = addBytes a v c) (htf : t.f = Flags.ofAdd a v c) :
    isBcd (decimalAdjust t).a = true ∧
      bcdValue (decimalAdjust t).a = (bcdValue a + bcdValue v + c.toNat) % 100 ∧
      (decimalAdjust t).f.c = decide (bcdValue a + bcdValue v + c.toNat > 99) := by
  obtain ⟨hsum, -, hn, hh, hc⟩ := numbers_of_ofAdd hta htf
  have hadj := toNat_daaResult_of_add (a := t.a) hn
  simp only [hh, hc, decide_eq_true_eq] at hadj
  rw [isBcd_iff] at ha hv
  have hdigits := digits_of_sum (c := c.toNat) (t := t.a.toNat) (u := (daaResult t.a t.f).toNat) ha.2 ha.1 hv.2 hv.1 c.toNat_le
    (by rwa [Nat.div_add_mod, Nat.div_add_mod]) (by rwa [Nat.div_add_mod, Nat.div_add_mod])
  rw [Nat.div_add_mod, Nat.div_add_mod] at hdigits
  obtain ⟨hones, htens, hvalue, hcarry⟩ := hdigits
  refine ⟨(isBcd_iff _).mpr ⟨hones, htens⟩, hvalue, ?_⟩
  rw [decimalAdjust_carry_of_add hn, hc, ← Bool.decide_or]
  exact decide_eq_decide.mpr hcarry

/-- After a difference of two-digit decimals the adjusted A is the decimal difference, the borrow in C. -/
theorem decimalAdjust_of_sub (hta : t.a = subBytes a v c) (htf : t.f = Flags.ofSub a v c) :
    isBcd (decimalAdjust t).a = true ∧
      (bcdValue (decimalAdjust t).a : Int) = ((bcdValue a : Int) - bcdValue v - c.toNat) % 100 ∧
      (decimalAdjust t).f.c = decide ((bcdValue a : Int) - bcdValue v - c.toNat < 0) := by
  obtain ⟨hdiff, -, hn, hh, hc⟩ := numbers_of_ofSub hta htf
  have hadj := toNat_daaResult_of_sub (a := t.a) hn
  simp only [hh, hc, decide_eq_true_eq] at hadj
  rw [isBcd_iff] at ha hv
  have hdigits := digits_of_difference (c := c.toNat) (t := t.a.toNat) (u := (daaResult t.a t.f).toNat) ha.2 ha.1 hv.2 hv.1 c.toNat_le
    (by rwa [Nat.div_add_mod, Nat.div_add_mod]) (by rwa [Nat.div_add_mod, Nat.div_add_mod])
  rw [Nat.div_add_mod, Nat.div_add_mod] at hdigits
  obtain ⟨hones, htens, hvalue, hborrow⟩ := hdigits
  refine ⟨(isBcd_iff _).mpr ⟨hones, htens⟩, hvalue, ?_⟩
  rw [decimalAdjust_carry_of_sub hn, hc]
  exact decide_eq_decide.mpr hborrow

end

/-- Settles O44: ADD and ADC by the one rule, with the carry-in 0 and the old C; SUB and SBC by the other. -/
theorem decimalAdjustCorrectsBcdArithmetic : Obligations.DecimalAdjustCorrectsBcdArithmetic := by
  intro r s ha hv
  refine ⟨List.forall_mem_cons.mpr ⟨?_, List.forall_mem_singleton.mpr ?_⟩,
    List.forall_mem_cons.mpr ⟨?_, List.forall_mem_singleton.mpr ?_⟩⟩
  · exact ⟨_, _, exec_aluAdd (.reg r) s, rfl, decimalAdjust_of_add ha hv (addA_a (.reg r) s) (addA_f (.reg r) s)⟩
  · exact ⟨_, _, exec_aluAdc (.reg r) s, rfl, decimalAdjust_of_add ha hv (adcA_a (.reg r) s) (adcA_f (.reg r) s)⟩
  · exact ⟨_, _, exec_aluSub (.reg r) s, rfl, decimalAdjust_of_sub ha hv (subA_a (.reg r) s) (subA_f (.reg r) s)⟩
  · exact ⟨_, _, exec_aluSbc (.reg r) s, rfl, decimalAdjust_of_sub ha hv (sbcA_a (.reg r) s) (sbcA_f (.reg r) s)⟩

end Sys2Proof.Machine
end

section
/-! Proofs of the family 43_rotate.md: the rotates of A (R150 to R153). -/

namespace Sys2Proof.Machine

/-! ## The bit rotated out, as a number -/

theorem highBit_eq (a : Byte) : highBit a = decide (a.toNat / 128 = 1) := by
  have hmod : a.toNat / 128 % 2 = a.toNat / 128 := by omega
  rw [highBit, BitVec.getLsbD, Nat.testBit_eq_decide_div_mod_eq, hmod]

theorem lowBit_eq (a : Byte) : lowBit a = decide (a.toNat % 2 = 1) := by
  rw [lowBit, BitVec.getLsbD, Nat.testBit_eq_decide_div_mod_eq, Nat.pow_zero, Nat.div_one]

theorem toNat_highBit (a : Byte) : (highBit a).toNat = a.toNat / 128 := by
  rw [highBit_eq]
  obtain h | h : a.toNat / 128 = 0 ∨ a.toNat / 128 = 1 := by omega
  all_goals rw [h]; rfl

theorem toNat_lowBit (a : Byte) : (lowBit a).toNat = a.toNat % 2 := by
  rw [lowBit_eq]
  obtain h | h : a.toNat % 2 = 0 ∨ a.toNat % 2 = 1 := by omega
  all_goals rw [h]; rfl

/-! ## One rotate -/

theorem rotateLeft_a (s : State) (into : Bool) : (rotateLeft s into).a = shiftInLow s.a into := rfl

theorem rotateLeft_f (s : State) (into : Bool) : (rotateLeft s into).f = s.f.rotate (highBit s.a) := rfl

theorem rotateRight_a (s : State) (into : Bool) : (rotateRight s into).a = shiftInHigh s.a into := rfl

theorem rotateRight_f (s : State) (into : Bool) : (rotateRight s into).f = s.f.rotate (lowBit s.a) := rfl

/-- Settles O45: the bit rotated out is the one rotated in. -/
theorem rotateAccumulatorCircular : Obligations.RotateAccumulatorCircular := by
  intro s
  constructor
  · refine ⟨rfl, rotateLeft s (highBit s.a), rfl, ?_, rfl, rfl, highBit_eq s.a, Form.run_onlyChanges .rlca s,
      Form.run_ran .rlca s⟩
    rw [rotateLeft_a, toNat_shiftInLow, toNat_highBit]
  · refine ⟨rfl, rotateRight s (lowBit s.a), rfl, ?_, rfl, rfl, lowBit_eq s.a, Form.run_onlyChanges .rrca s,
      Form.run_ran .rrca s⟩
    rw [rotateRight_a, toNat_shiftInHigh, toNat_lowBit]

/-- Settles O46: the bit rotated in is the old carry. -/
theorem rotateAccumulatorThroughCarry : Obligations.RotateAccumulatorThroughCarry :=
  fun s => ⟨⟨rfl, rotateLeft s s.f.c, rfl, toNat_shiftInLow s.a s.f.c, rfl, rfl, highBit_eq s.a,
      Form.run_onlyChanges .rla s, Form.run_ran .rla s⟩,
    rfl, rotateRight s s.f.c, rfl, toNat_shiftInHigh s.a s.f.c, rfl, rfl, lowBit_eq s.a,
      Form.run_onlyChanges .rra s, Form.run_ran .rra s⟩

/-! ## Nine rotates through the carry -/

/-- The nine bits that RLA and RRA rotate: those of A, and above them the carry. -/
def State.nineBit (s : State) (j : Nat) : Bool := if j = 8 then s.f.c else s.a.getLsbD j

/-- The form moves each of the nine bits `m` places around. -/
def Form.RotatesNineBits (k : Form) (m : Nat) : Prop :=
  ∀ (s : State) {j : Nat}, j < 9 → (Form.run k s).nineBit j = s.nineBit ((j + m) % 9)

/-- RLA moves a bit up one place, which is eight places back around (R152). -/
theorem Form.rla_rotatesNineBits : Form.RotatesNineBits .rla 8 := by
  intro s j hj
  have ha : (Form.run .rla s).a = shiftInLow s.a s.f.c := rfl
  have hc : (Form.run .rla s).f.c = s.a.getLsbD 7 := rfl
  rw [State.nineBit, State.nineBit, ha, hc, shiftInLow, BitVec.getLsbD_append]
  cases j with
  | zero => simp
  | succ j =>
    have hback : (j + 1 + 8) % 9 = j := by omega
    rw [hback]
    obtain rfl | hlt : j = 7 ∨ j < 7 := by omega
    · simp
    · have h8 : j ≠ 8 := by omega
      simp [hlt, hlt.ne, h8]

/-- RRA moves a bit down one place (R153). -/
theorem Form.rra_rotatesNineBits : Form.RotatesNineBits .rra 1 := by
  intro s j hj
  have ha : (Form.run .rra s).a = shiftInHigh s.a s.f.c := rfl
  have hc : (Form.run .rra s).f.c = s.a.getLsbD 0 := rfl
  rw [State.nineBit, State.nineBit, ha, hc, shiftInHigh, BitVec.getLsbD_append]
  obtain rfl | rfl | hlt : j = 8 ∨ j = 7 ∨ j < 7 := by omega
  · simp
  · simp
  · have hnext : (j + 1) % 9 = 1 + j := by omega
    have h8 : j ≠ 8 ∧ 1 + j ≠ 8 := by omega
    simp [hnext, hlt, h8]

section
variable {k : Form} {m : Nat} (hk : Form.RotatesNineBits k m)
include hk

theorem Form.RotatesNineBits.nineBit_iterate (n : Nat) (s : State) {j : Nat} (hj : j < 9) :
    ((Form.run k)^[n] s).nineBit j = s.nineBit ((j + m * n) % 9) := by
  induction n generalizing s with
  | zero => simp [Nat.mod_eq_of_lt hj]
  | succ n ih =>
    rw [Function.iterate_succ_apply, ih, hk _ (Nat.mod_lt _ (by decide)), Nat.mod_add_mod, Nat.mul_succ, Nat.add_assoc]

/-- After nine rotates every bit has moved a whole number of times around, so A and the carry are back. -/
theorem Form.RotatesNineBits.iterate_nine (s : State) :
    ((Form.run k)^[9] s).a = s.a ∧ ((Form.run k)^[9] s).f.c = s.f.c := by
  have hbit {j : Nat} (hj : j < 9) : ((Form.run k)^[9] s).nineBit j = s.nineBit j := by
    rw [hk.nineBit_iterate 9 s hj, Nat.add_mul_mod_self_right, Nat.mod_eq_of_lt hj]
  refine ⟨BitVec.eq_of_getLsbD_eq fun j hj => ?_, ?_⟩
  · have hj9 : j < 9 := by omega
    simpa only [State.nineBit, if_neg hj.ne] using hbit hj9
  · exact hbit (j := 8) (by decide)

end

/-- Settles O48: nine rotates take each of the nine bits once around. -/
theorem nineRotatesThroughCarryRestoreAAndC : Obligations.NineRotatesThroughCarryRestoreAAndC :=
  fun s => ⟨⟨_, repeatExec_eq_iterate .rla 9 s, Form.rla_rotatesNineBits.iterate_nine s⟩,
    _, repeatExec_eq_iterate .rra 9 s, Form.rra_rotatesNineBits.iterate_nine s⟩

end Sys2Proof.Machine
end

section
/-! Proofs of the family 44_jump.md (R160 to R162), and the displacement an assembler writes (30_encoding.md R88). -/

namespace Sys2Proof.Machine

/-- A displacement byte as a signed number. -/
theorem toInt_displacement (d : Byte) : d.toInt = if d.toNat < 128 then (d.toNat : Int) else d.toNat - 256 := by
  rw [BitVec.toInt_eq_toNat_cond]
  split <;> split <;> omega

/-- The target as a number: the signed displacement is added, mod 65536 (R161). -/
theorem toNat_jumpTarget (pc : Word) (d : Byte) :
    ((jumpTarget pc d).toNat : Int) = (pc.toNat + d.toInt) % 65536 := by
  have hext : (d.signExtend 16).toInt = d.toInt := BitVec.toInt_signExtend_of_le (by decide)
  rw [BitVec.toInt_eq_toNat_cond] at hext
  rw [jumpTarget, BitVec.toNat_add, ← hext]
  split <;> omega

/-- Settles O49: the target as a number. -/
theorem jumpRelativeAddsTheDisplacement : Obligations.JumpRelativeAddsTheDisplacement := by
  intro d s
  refine ⟨rfl, jumpRelative d s, rfl, ?_, Form.run_onlyChanges (.jr d) s, Form.run_ran (.jr d) s⟩
  rw [← toInt_displacement]
  exact toNat_jumpTarget s.pc d

theorem jumpIf_of_holds {cc : Cond} {s : State} (h : condHolds cc s.f = true) (d : Byte) :
    jumpIf cc d s = (s.setPc (jumpTarget s.pc d)).advance (takenCost s.cfg) := if_pos h

theorem jumpIf_of_not_holds {cc : Cond} {s : State} (h : condHolds cc s.f = false) (d : Byte) :
    jumpIf cc d s = s.advance 2 := if_neg (by simp [h])

/-- Settles O50: a jump taken writes `pc`, and one not taken only charges its cycles. -/
theorem conditionalJumpFollowsItsFlag : Obligations.ConditionalJumpFollowsItsFlag := by
  intro cc d s
  refine ⟨by cases cc <;> rfl, fun h => ?_, fun h => ?_⟩
  · have hholds : condHolds cc s.f = true := h
    refine ⟨_, exec_jrIf cc d s, ?_, Form.run_onlyChanges (.jrIf cc d) s, ?_⟩
    · rw [jumpIf_of_holds hholds, ← toInt_displacement]
      exact toNat_jumpTarget s.pc d
    · rw [jumpIf_of_holds hholds]
      exact ⟨rfl, rfl, rfl⟩
  · have hnot : condHolds cc s.f = false := h
    refine ⟨_, exec_jrIf cc d s, ?_, ?_⟩
    · rw [jumpIf_of_not_holds hnot]
      exact s.advance_onlyChanges 2
    · rw [jumpIf_of_not_holds hnot]
      exact ⟨rfl, rfl, rfl⟩

/-! ## The displacement to a target (30_encoding.md R88) -/

theorem displacementTo_eq_none_iff (opcodeAddress target : Word) :
    displacementTo opcodeAddress target = none ↔
      (target.toNat : Int) - (opcodeAddress.toNat + 2) < -128 ∨ (target.toNat : Int) - (opcodeAddress.toNat + 2) > 127 := by
  simp only [displacementTo]
  split <;> simp <;> omega

/-- A displacement that is there is the signed distance from the next-instruction address. -/
theorem toInt_of_displacementTo {opcodeAddress target : Word} {d : Byte} (h : displacementTo opcodeAddress target = some d) :
    d.toInt = (target.toNat : Int) - (opcodeAddress.toNat + 2) := by
  simp only [displacementTo] at h
  split at h
  · cases h
    rw [BitVec.toInt_ofInt]
    exact Int.bmod_eq_of_le (by omega) (by omega)
  · cases h

/-- Settles O7: the distance added to the next-instruction address is the target, mod 65536. -/
theorem assembledDisplacementReachesTheTarget : Obligations.AssembledDisplacementReachesTheTarget := by
  intro opcodeAddress target s hpc
  refine ⟨fun d hd => ⟨jumpRelative d s, rfl, BitVec.eq_of_toNat_eq ?_⟩, displacementTo_eq_none_iff opcodeAddress target⟩
  have htarget : ((jumpTarget s.pc d).toNat : Int) = target.toNat := by
    have hnext : s.pc.toNat = (opcodeAddress.toNat + 2) % 65536 := by rw [hpc, BitVec.toNat_add]; rfl
    have hlt := target.isLt
    rw [toNat_jumpTarget, toInt_of_displacementTo hd]
    omega
  exact Int.ofNat.inj htarget

end Sys2Proof.Machine
end

section
/-! Proofs of the family 45_control.md: the flag-only and control instructions (R170 to R174). -/

namespace Sys2Proof.Machine

/-- Settles O51: the two rules for the flags. -/
theorem setAndComplementCarry : Obligations.SetAndComplementCarry :=
  fun s => ⟨⟨rfl, flagsOnly s s.f.scf, rfl, rfl, rfl, rfl, Form.run_onlyChanges .scf s, Form.run_ran .scf s⟩,
    rfl, flagsOnly s s.f.ccf, rfl, rfl, rfl, rfl, Form.run_onlyChanges .ccf s, Form.run_ran .ccf s⟩

/-- Settles O52: the form only charges its cycle. -/
theorem nopOnlyAdvancesTheClock : Obligations.NopOnlyAdvancesTheClock :=
  fun s => ⟨rfl, s.advance 1, rfl, s.advance_onlyChanges 1, Form.run_ran .nop s, rfl⟩

/-- 0x10 is STOP, and the byte after it is taken where STOP is two bytes long (R173). -/
theorem decode_stop (c : Config) (x : Byte) :
    decode c [0x10#8, x] = .ok (.stop, match c.stopLength with | .one => [x] | .two => []) := by
  have hrow : decodeOpcode c 0x10#8 = .ok (stopRow c) := rfl
  rw [decode_cons_of_row c _ _ _ hrow]
  cases h : c.stopLength <;> simp only [stopRow, h, Row.take]

/-- Settles O53: the row of 0x10, and the two rules for `st`. -/
theorem stopAndHaltEnterTheirStates : Obligations.StopAndHaltEnterTheirStates :=
  fun s => ⟨⟨decode_stop s.cfg, stopIn .terminated s, rfl, rfl, Form.run_onlyChanges .stop s, Form.run_ran .stop s⟩,
    rfl, stopIn .halted s, rfl, rfl, Form.run_onlyChanges .halt s, Form.run_ran .halt s⟩

end Sys2Proof.Machine
end

section
/-! Proofs of the host's ports: `Reset`, `Load` and the observation port (10_state.md R27, R33, R37, R45, R47;
70_reset_and_hazards.md R230, R231). -/

namespace Sys2Proof.Machine

/-- Settles O56, field by field of the state right after reset. -/
theorem resetSetsEveryPieceOfState : Obligations.ResetSetsEveryPieceOfState :=
  fun rv s => ⟨s.hostReset rv, rfl, rfl, rfl, rfl, rfl, rfl, rfl, rfl, rfl, rfl, rfl, rfl, rfl, rfl, rfl, rfl, rfl, rfl, rfl⟩

/-- Settles O57, field by field, register by register and flag by flag. -/
theorem defaultResetStateIsAllZero : Obligations.DefaultResetStateIsAllZero := by
  refine ⟨fun r => ?_, rfl, rfl, fun k => ?_, rfl, rfl, rfl, rfl, rfl, rfl⟩
  · cases r <;> rfl
  · cases k <;> rfl

/-! ## `Load` -/

theorem State.setReg_onlyChanges (s : State) (r : Reg8) (v : Byte) : OnlyChanges s (s.setReg r v) [.reg r] := by
  intro p hp
  cases p
  case reg q => exact s.reg_setReg_ne v fun h => hp (by simp [h])
  all_goals simp [Part.Same]

theorem State.setPair_onlyChanges (s : State) (p : RegPair) (v : Word) :
    OnlyChanges s (s.setPair p v) [.reg (pairHigh p), .reg (pairLow p)] := by
  intro q hq
  cases q
  case reg r => exact s.reg_setPair_ne p v (fun h => hq (by simp [h])) fun h => hq (by simp [h])
  all_goals simp [Part.Same]

/-- One flag reads as written, the others as before (R29). -/
theorem Flags.get_set (f : Flags) (k j : FlagName) (v : Bool) : (f.set k v).get j = if j = k then v else f.get j := by
  cases k <;> cases j <;> rfl

theorem State.setFlag_onlyChanges (s : State) (k : FlagName) (v : Bool) :
    OnlyChanges s (s.setFlags (s.f.set k v)) [.flag k] := by
  intro p hp
  cases p
  case reg r => exact s.reg_setFlags _ r
  case flag j => exact (s.f.get_set k j v).trans (if_neg fun h => hp (by simp [h]))
  all_goals rfl

theorem State.setPc_onlyChanges (s : State) (v : Word) : OnlyChanges s (s.setPc v) [.pc] := by
  intro p hp
  cases p
  case reg r => exact s.reg_setPc v r
  case pc => simp at hp
  all_goals rfl

theorem State.setSp_onlyChanges (s : State) (v : Word) : OnlyChanges s (s.setReg16 .sp v) [.sp] := by
  intro p hp
  cases p
  case reg r => cases r <;> rfl
  case sp => simp at hp
  all_goals rfl

/-- `Load` charges nothing, makes no bus call and leaves the parameters (R47). -/
theorem State.load_ran (s : State) (k : LoadTarget) : Ran s (s.load k) 0 [] := by
  cases k <;> simp [Ran, State.load]

/-- Settles O58, target by target. -/
theorem loadWritesOneThing : Obligations.LoadWritesOneThing := by
  refine fun k s => ⟨s.load k, rfl, s.load_ran k, s.load_mem k, ?_⟩
  cases k with
  | reg r v => exact ⟨s.reg_setReg_same r v, s.setReg_onlyChanges r v⟩
  | pair p v => exact ⟨s.pair_setPair p v, s.setPair_onlyChanges p v⟩
  | pc v => exact ⟨rfl, s.setPc_onlyChanges v⟩
  | sp v => exact ⟨rfl, s.setSp_onlyChanges v⟩
  | flag f v => exact ⟨(s.f.get_set f f v).trans (if_pos rfl), s.setFlag_onlyChanges f v⟩

/-! ## The observation port -/

/-- The packed flags, Z lowest, as a number (R27). -/
theorem Flags.toNat_packed (f : Flags) :
    f.packed.toNat = f.z.toNat + 2 * f.n.toNat + 4 * f.h.toNat + 8 * f.c.toNat := by
  obtain ⟨z, n, h, c⟩ := f
  revert z n h c
  decide

/-- Settles O60: the port shows the fields; the packed flags and the code are computed. -/
theorem observationPortShowsTheState : Obligations.ObservationPortShowsTheState := by
  intro s
  refine ⟨⟨rfl, rfl, rfl, rfl, rfl, rfl, rfl⟩, ⟨rfl, rfl, rfl, rfl, rfl, rfl⟩, ⟨rfl, rfl, rfl, rfl⟩, s.f.toNat_packed, ?_⟩
  simp only [observe]
  cases s.st <;> rfl

end Sys2Proof.Machine
end

section
/-! Proofs that an instruction depends on no register the table does not list as read (10_state.md R21): a register
written beforehand moves past every update the form makes, or is written over. -/

namespace Sys2Proof.Machine

/-! ## A register written beforehand moves past the other updates -/

section
variable (s : State) (r : Reg8) (v : Byte)

@[simp] theorem State.advance_setReg (n : Nat) : (s.setReg r v).advance n = (s.advance n).setReg r v := by
  cases r <;> rfl

@[simp] theorem State.setFlags_setReg (f : Flags) : (s.setReg r v).setFlags f = (s.setFlags f).setReg r v := by
  cases r <;> rfl

@[simp] theorem State.setPc_setReg (w : Word) : (s.setReg r v).setPc w = (s.setPc w).setReg r v := by
  cases r <;> rfl

@[simp] theorem State.enter_setReg (t : RunState) : (s.setReg r v).enter t = (s.enter t).setReg r v := by
  cases r <;> rfl

@[simp] theorem State.call_setReg (k : BusCall) : (s.setReg r v).call k = (s.call k).setReg r v := by
  cases r <;> rfl

@[simp] theorem State.writeByte_setReg (a : Word) (w : Byte) :
    (s.setReg r v).writeByte a w = (s.writeByte a w).setReg r v := by
  simp only [State.writeByte, State.setReg_cfg]
  split <;> cases r <;> rfl

@[simp] theorem State.setReg_setReg_same (w : Byte) : (s.setReg r v).setReg r w = s.setReg r w := by
  cases r <;> rfl

theorem State.setReg_setReg_ne {q : Reg8} (w : Byte) (h : r ≠ q) :
    (s.setReg r v).setReg q w = (s.setReg q w).setReg r v := by
  cases r <;> cases q <;> first | rfl | exact absurd rfl h

/-- Either register of a pair is written over by a write of the pair. -/
theorem State.setPair_setReg_of_mem {p : RegPair} (w : Word) (h : r = pairHigh p ∨ r = pairLow p) :
    (s.setReg r v).setPair p w = s.setPair p w := by
  obtain rfl | rfl := h <;> cases p <;> rfl

theorem State.setPair_setReg_ne {p : RegPair} (w : Word) (hh : r ≠ pairHigh p) (hl : r ≠ pairLow p) :
    (s.setReg r v).setPair p w = (s.setPair p w).setReg r v := by
  rw [State.setPair, State.setPair, State.setReg_setReg_ne s r v _ hh, State.setReg_setReg_ne _ r v _ hl]

theorem State.setReg16_setReg_ne {rr : Reg16} (w : Word) (h : r ∉ reg16Regs rr) :
    (s.setReg r v).setReg16 rr w = (s.setReg16 rr w).setReg r v := by
  cases rr with
  | pair p =>
    simp only [reg16Regs, List.mem_cons, List.not_mem_nil, or_false, not_or] at h
    exact s.setPair_setReg_ne r v w h.1 h.2
  | sp => cases r <;> rfl

theorem State.reg16_setReg_ne {rr : Reg16} (h : r ∉ reg16Regs rr) : (s.setReg r v).reg16 rr = s.reg16 rr := by
  cases rr with
  | pair p =>
    simp only [reg16Regs, List.mem_cons, List.not_mem_nil, or_false, not_or] at h
    exact s.pair_setReg_ne r v p h.1 h.2
  | sp => exact s.setReg_sp r v

/-- The operand reads the same, and its bus call moves past. -/
theorem State.operand_setReg_ne {x : Operand} (h : r ∉ operandRegs x) :
    (s.setReg r v).operand x = ((s.operand x).1, (s.operand x).2.setReg r v) := by
  cases x with
  | reg q =>
    have hq : q ≠ r := by
      rintro rfl
      exact h (List.mem_singleton_self q)
    simp [State.reg_setReg_ne s v hq]
  | atHL =>
    simp only [operandRegs, List.mem_cons, List.not_mem_nil, or_false, not_or] at h
    simp [s.pair_setReg_ne r v .hl h.1 h.2]

end

/-! ## The forms -/

theorem State.a_eq_reg (s : State) : s.a = s.reg .a := rfl

section
variable (k : Form) (s : State) (r : Reg8) (v : Byte) (h : r ∉ Form.regsRead k)
include h

/-- What the form reads is as it was. -/
theorem Form.reg_setReg_of_read (q : Reg8) (hq : q ∈ Form.regsRead k) : (s.setReg r v).reg q = s.reg q :=
  s.reg_setReg_ne v fun hqr => h (hqr ▸ hq)

/-- A register the form writes without reading it is written over: the loads. -/
theorem Form.run_setReg_of_written (hw : r ∈ Form.regsWritten k) : Form.run k (s.setReg r v) = Form.run k s := by
  have hread := Form.reg_setReg_of_read k s r v h
  cases k
  case ldPairImm rr nn =>
    cases rr with
    | sp => simp [Form.regsWritten, reg16Regs] at hw
    | pair p =>
      have hp : r = pairHigh p ∨ r = pairLow p := by simpa [Form.regsWritten, reg16Regs] using hw
      simp only [Form.run, ldImm16, State.setReg16, State.setPair_setReg_of_mem s r v nn hp]
  case ldImm q n | ldReg q q' | ldFromHL q =>
    obtain rfl : r = q := by simpa [Form.regsWritten] using hw
    simp_all [Form.run, Form.regsRead, ldImm, ldReg, loadReg_eq, State.pair, pairHigh, pairLow]
  case ldAFromPair p =>
    obtain rfl : r = .a := by simpa [Form.regsWritten] using hw
    simp_all [Form.run, Form.regsRead, loadReg_eq, State.pair]
  case ldiLoad | lddLoad =>
    obtain rfl : r = .a := by simp_all [Form.regsRead, Form.regsWritten]
    simp_all [Form.run, Form.regsRead, loadStep_eq, State.pair, pairHigh, pairLow]
  all_goals simp_all [Form.regsRead, Form.regsWritten]

/-- A register the form neither reads nor writes keeps what was written to it. -/
theorem Form.run_setReg_of_not_written (hw : r ∉ Form.regsWritten k) :
    Form.run k (s.setReg r v) = (Form.run k s).setReg r v := by
  have hread := Form.reg_setReg_of_read k s r v h
  have hreg (t : State) (q : Reg8) (w : Byte) := State.setReg_setReg_ne t r v (q := q) w
  have hpair (t : State) (p : RegPair) (w : Word) := State.setPair_setReg_ne t r v (p := p) w
  cases k
  case jrIf cc d =>
    simp only [Form.run, jumpIf, State.setReg_f, State.setReg_pc, State.setReg_cfg, State.setPc_setReg,
      State.advance_setReg]
    split <;> rfl
  case ldPairImm rr nn => simp only [Form.run, ldImm16, State.setReg16_setReg_ne s r v nn hw, State.advance_setReg]
  case incPair rr | decPair rr =>
    simp only [Form.run, inc16, dec16, State.reg16_setReg_ne s r v hw, State.setReg16_setReg_ne s r v _ hw,
      State.advance_setReg]
  case addHL rr =>
    obtain ⟨hhl, hrr⟩ : (r ≠ .h ∧ r ≠ .l) ∧ r ∉ reg16Regs rr := by simpa [Form.regsRead, and_assoc] using h
    simp only [Form.run, addToHL, s.pair_setReg_ne r v .hl hhl.1 hhl.2, State.reg16_setReg_ne s r v hrr,
      State.setPair_setReg_ne s r v (p := .hl) _ hhl.1 hhl.2, State.setReg_f, State.setFlags_setReg, State.advance_setReg]
  case add x | adc x | sub x | sbc x | and x =>
    obtain ⟨ha, hx⟩ : r ≠ .a ∧ r ∉ operandRegs x := by simpa [Form.regsRead] using h
    have hra : (s.setReg r v).a = s.a := s.reg_setReg_ne v ha.symm
    simp only [Form.run, addA_eq, adcA_eq, subA_eq, sbcA_eq, andA_eq, State.operand_setReg_ne s r v hx, hra,
      State.setReg_setReg_ne _ r v _ ha, State.setReg_f, State.setFlags_setReg, State.advance_setReg]
  all_goals
    simp_all [Form.run, Form.regsRead, Form.regsWritten, ldImm, ldMemImm, ldReg, storeReg, loadReg_eq, storeStep,
      loadStep_eq, inc8, dec8, incMem_eq, decMem_eq, decimalAdjust, rotateLeft, rotateRight, jumpRelative, flagsOnly,
      stopIn, State.pair, State.a_eq_reg, pairHigh, pairLow]

end

/-- Settles O21: the register written beforehand is written over, or keeps its value. -/
theorem registersNotReadDoNotMatter : Obligations.RegistersNotReadDoNotMatter := by
  intro i s r v h
  refine ⟨_, exec_eq_run i s, ?_⟩
  rw [exec_eq_run]
  split
  · rw [Form.run_setReg_of_written i.form s r v h ‹_›]
  · rw [Form.run_setReg_of_not_written i.form s r v h ‹_›]

end Sys2Proof.Machine
end

section
/-! Proofs that an instruction depends on no flag the table does not list as read (10_state.md R30): a flag written
beforehand moves past every update of another field, and past or under the form's own write of the flags. -/

namespace Sys2Proof.Machine

/-! ## The flags written beforehand move past the other updates -/

section
variable (s : State) (f : Flags)

theorem State.setFlags_setFlags (g : Flags) : (s.setFlags f).setFlags g = s.setFlags g := rfl

theorem State.advance_setFlags (n : Nat) : (s.setFlags f).advance n = (s.advance n).setFlags f := rfl

theorem State.setPc_setFlags (w : Word) : (s.setFlags f).setPc w = (s.setPc w).setFlags f := rfl

theorem State.enter_setFlags (t : RunState) : (s.setFlags f).enter t = (s.enter t).setFlags f := rfl

theorem State.call_setFlags (k : BusCall) : (s.setFlags f).call k = (s.call k).setFlags f := rfl

theorem State.writeByte_setFlags (a : Word) (w : Byte) :
    (s.setFlags f).writeByte a w = (s.writeByte a w).setFlags f := by
  simp only [State.writeByte, State.setFlags_cfg]
  split <;> rfl

theorem State.setReg_setFlags (r : Reg8) (w : Byte) : (s.setFlags f).setReg r w = (s.setReg r w).setFlags f :=
  (s.setFlags_setReg r w f).symm

theorem State.setPair_setFlags (p : RegPair) (w : Word) : (s.setFlags f).setPair p w = (s.setPair p w).setFlags f := by
  simp only [State.setPair, State.setReg_setFlags]

theorem State.setReg16_setFlags (rr : Reg16) (w : Word) :
    (s.setFlags f).setReg16 rr w = (s.setReg16 rr w).setFlags f := by
  cases rr with
  | pair p => exact s.setPair_setFlags f p w
  | sp => rfl

theorem State.reg16_setFlags (rr : Reg16) : (s.setFlags f).reg16 rr = s.reg16 rr := by
  cases rr with
  | pair p => exact s.pair_setFlags f p
  | sp => rfl

theorem State.operand_setFlags (x : Operand) :
    (s.setFlags f).operand x = ((s.operand x).1, (s.operand x).2.setFlags f) := by
  cases x <;> simp [State.call_setFlags]

end

/-! ## The forms -/

/-- The forms that write no flag: what they do is the same under any flags, but for the condition of a jump. -/
theorem Form.run_setFlags_of_none_written (k : Form) (s : State) (f : Flags) (hw : Form.flagsWritten k = [])
    (ht : Form.taken (s.setFlags f) k = Form.taken s k) : Form.run k (s.setFlags f) = (Form.run k s).setFlags f := by
  cases k
  case jrIf cc d =>
    have hcond : condHolds cc f = condHolds cc s.f := ht
    simp only [Form.run, jumpIf, State.setFlags_f, hcond]
    split <;> rfl
  case incReg | decReg | incMem | decMem | addHL | add | adc | sub | sbc | and | daa | rlca | rrca | rla | rra | scf | ccf =>
    cases hw
  all_goals simp only [Form.run, ldImm, ldMemImm, ldImm16, ldReg, storeReg, loadReg_eq, storeStep, loadStep_eq, inc16, dec16,
    jumpRelative, stopIn, State.reg_setFlags, State.pair_setFlags, State.setFlags_a, State.setFlags_pc, State.reg16_setFlags,
    State.busByte_setFlags, State.advance_setFlags, State.setPc_setFlags, State.enter_setFlags, State.call_setFlags,
    State.writeByte_setFlags, State.setReg_setFlags, State.setPair_setFlags, State.setReg16_setFlags]

theorem Flags.ext_get {f g : Flags} (h : ∀ j, f.get j = g.get j) : f = g := by
  cases f
  cases g
  exact Flags.mk.injEq .. ▸ ⟨h .z, h .n, h .h, h .c⟩

theorem Flags.get_set_of_not_mem (f : Flags) {j k : FlagName} (v : Bool) (h : j ∉ [k]) : (f.set j v).get k = f.get k :=
  (f.get_set j k v).trans (if_neg fun hk => h (by simp [hk]))

/-- A flag that decides no jump leaves the condition as it was (44_jump.md R160). -/
theorem Form.taken_setFlag (k : Form) (s : State) (j : FlagName) (v : Bool) (h : j ∉ Form.flagsRead k) :
    Form.taken (s.setFlags (s.f.set j v)) k = Form.taken s k := by
  cases k
  case jrIf cc d =>
    cases cc with
    | nz => exact congrArg not (s.f.get_set_of_not_mem (k := .z) v h)
    | z => exact s.f.get_set_of_not_mem (k := .z) v h
    | nc => exact congrArg not (s.f.get_set_of_not_mem (k := .c) v h)
    | c => exact s.f.get_set_of_not_mem (k := .c) v h
  all_goals rfl

/-- The forms that write flags: a flag written beforehand is written over, or kept beside those the form writes. Once it
has moved past the updates of the other fields, each rule for the flags says which, flag by flag. -/
theorem Form.run_setFlag_of_some_written (k : Form) (s : State) (j : FlagName) (v : Bool) (h : j ∉ Form.flagsRead k)
    (hsome : Form.flagsWritten k ≠ []) :
    Form.run k (s.setFlags (s.f.set j v)) =
      if j ∈ Form.flagsWritten k then Form.run k s else (Form.run k s).setFlags ((Form.run k s).f.set j v) := by
  cases k
  case incReg | decReg | incMem | decMem | addHL | rlca | rrca | scf =>
    simp only [Form.run, inc8, dec8, incMem_eq, decMem_eq, addToHL, rotateLeft, rotateRight, flagsOnly, State.reg_setFlags,
      State.pair_setFlags, State.reg16_setFlags, State.setFlags_a, State.setFlags_f, State.busByte_setFlags,
      State.setReg_setFlags, State.setPair_setFlags, State.call_setFlags, State.writeByte_setFlags]
    cases j <;> rfl
  case add | sub | and =>
    simp only [Form.run, addA_eq, subA_eq, andA_eq, State.operand_setFlags, State.setFlags_a, State.setReg_setFlags]
    cases j <;> rfl
  case adc | sbc | rla | rra | ccf =>
    have hc : (s.f.set j v).c = s.f.c := s.f.get_set_of_not_mem (k := .c) v h
    simp only [Form.run, adcA_eq, sbcA_eq, rotateLeft, rotateRight, flagsOnly, Flags.ccf, State.operand_setFlags,
      State.setFlags_a, State.setFlags_f, State.setReg_setFlags, hc]
    cases j <;> rfl
  case daa =>
    obtain rfl : j = .z := by cases j <;> simp_all [Form.flagsRead]
    simp only [Form.run, decimalAdjust, State.setFlags_a, State.setFlags_f, State.setReg_setFlags]
    rfl
  all_goals exact absurd rfl hsome

theorem Form.run_setFlag (k : Form) (s : State) (j : FlagName) (v : Bool) (h : j ∉ Form.flagsRead k) :
    Form.run k (s.setFlags (s.f.set j v)) =
      if j ∈ Form.flagsWritten k then Form.run k s else (Form.run k s).setFlags ((Form.run k s).f.set j v) := by
  by_cases hnone : Form.flagsWritten k = []
  · have hf : (Form.run k s).f = s.f := Flags.ext_get fun f => Form.run_flag k s f (by simp [hnone])
    rw [if_neg (by simp [hnone]), hf]
    exact Form.run_setFlags_of_none_written k s _ hnone (Form.taken_setFlag k s j v h)
  · exact Form.run_setFlag_of_some_written k s j v h hnone

/-- Settles O22: the flag written beforehand is written over, or keeps its value. -/
theorem flagsNotReadDoNotMatter : Obligations.FlagsNotReadDoNotMatter := by
  intro i s j v h
  refine ⟨_, exec_eq_run i s, ?_⟩
  rw [exec_eq_run, Form.run_setFlag i.form s j v h]

end Sys2Proof.Machine
end
